-- ==== Sys2Proof/Word.lean ====
section
/-! DEFINITION. The two word types of the core: 8-bit and 16-bit values (spec 00_scope.md R7, R9). Every arithmetic on them wraps
(R9: "wraparound, not overflow, is correct behavior"). -/

namespace Sys2Proof

/-- An 8-bit value, `u8` of R9: a register half, a flag byte, a memory or port byte. -/
abbrev Byte := BitVec 8

/-- A 16-bit value, `u16` of R9: a register pair, an address, a port number. -/
abbrev Word := BitVec 16

end Sys2Proof
end

