-- ==== Sys2Proof/Machine/Bits.lean ====
section
/-! DEFINITION. Bit fields, byte order, sign extension and parity (00_scope.md R9, R10, R13; 20_memory.md R66). -/

namespace Sys2Proof.Machine

/-- `v[15:8]`. -/
def hiByte (v : Word) : Byte := BitVec.ofNat 8 (v.toNat / 256)

/-- `v[7:0]`. -/
def loByte (v : Word) : Byte := BitVec.ofNat 8 v.toNat

/-- `hi : lo`, the first argument the more significant byte: `hi*256 + lo` (R9). -/
def joinBytes (hi lo : Byte) : Word := BitVec.ofNat 16 (hi.toNat * 256 + lo.toNat)

/-- `sext_16(v8)`: "if v8 > 127 then v8 - 256 else v8", an integer in [-128, 127] (R10). -/
def signedByte (v : Byte) : Int := if v.toNat > 127 then (v.toNat : Int) - 256 else v.toNat

/-- The byte that encodes a signed displacement or offset (R104, read backwards). -/
def displacementByte (d : Int) : Byte := BitVec.ofInt 8 d

/-- `parity(v8)`: true iff the number of set bits is even (R13). -/
def parity (v : Byte) : Bool :=
  !(v.getLsbD 0 ^^ v.getLsbD 1 ^^ v.getLsbD 2 ^^ v.getLsbD 3 ^^ v.getLsbD 4 ^^ v.getLsbD 5 ^^ v.getLsbD 6 ^^ v.getLsbD 7)

/-- A flag as the number 0 or 1 (R11). -/
def bitNat (c : Bool) : Nat := if c then 1 else 0

/-- The address after `a`, mod 2^16 (R78). -/
def nextAddr (a : Word) : Word := a + 1

end Sys2Proof.Machine
end

