-- ==== Sys2Proof/Names.lean ====
section
/-! DEFINITION. The names the spec uses for operands: 8-bit registers, pairs, index registers and their halves, conditions,
operation fields, and the operand shapes (`Form`) that the 800 rows of the opcode table fall into. -/

namespace Sys2Proof

/-- The 8-bit registers of the register code `r` (10_state.md R22; code 6 is the memory operand, no register). -/
inductive Reg8 where
  | B | C | D | E | H | L | A
deriving DecidableEq, Repr

/-- The registers that may stand beside an index half in one instruction: R293's {B, C, D, E, A}. -/
inductive Reg5 where
  | B | C | D | E | A
deriving DecidableEq, Repr

/-- The index registers (10_state.md R25). -/
inductive Idx where
  | IX | IY
deriving DecidableEq, Repr

/-- Which half of an index register: `H` is bits 15..8, `L` bits 7..0 (10_state.md R25). -/
inductive Side where
  | H | L
deriving DecidableEq, Repr

/-- All 16-bit registers and pairs (10_state.md R23, R25, R31 less PC). -/
inductive Reg16 where
  | BC | DE | HL | AF | SP | IX | IY
deriving DecidableEq, Repr

/-- The pair code `rp[p]` of 10_state.md R23. In ADD IX,rr and ADD IY,rr the code HL names the destination itself (R105(a)). -/
inductive Rp where
  | BC | DE | HL | SP
deriving DecidableEq, Repr

/-- `rp[p]` with the index registers: the operand of LD rr,nn, INC rr and DEC rr (R180, R184, R300). -/
inductive Rr where
  | BC | DE | HL | SP | IX | IY
deriving DecidableEq, Repr

/-- `rp2[p]` with the index registers: the operand of PUSH and POP (R322, R323). -/
inductive Qq where
  | BC | DE | HL | AF | IX | IY
deriving DecidableEq, Repr

/-- HL or, under a lead byte DD or FD, an index register in its place (R105(a)). -/
inductive Xx where
  | HL | IX | IY
deriving DecidableEq, Repr

/-- The two pairs that address memory for A in one byte (R289, R291). -/
inductive BcDe where
  | BC | DE
deriving DecidableEq, Repr

/-- The condition codes (46_control_flow.md R330). A closed enumeration: no other token exists (R411). -/
inductive Cond where
  | NZ | Z | NC | C | PO | PE | P | M
deriving DecidableEq, Repr

/-- The conditions JR has (R334). -/
inductive JrCond where
  | NZ | Z | NC | C
deriving DecidableEq, Repr

/-- The interrupt mode IM (10_state.md R37): 0, 1 or 2 and nothing else. -/
inductive IntMode where
  | im0 | im1 | im2
deriving DecidableEq, Repr

/-- The direction of a block instruction's pointers (44_block.md): the increment or the decrement forms. -/
inductive BlockDir where
  | up | down
deriving DecidableEq, Repr

/-- The ALU operation field (40_alu8.md R140). -/
inductive AluOp where
  | ADD | ADC | SUB | SBC | AND | XOR | OR | CP
deriving DecidableEq, Repr

/-- The rotate and shift operation field (42_rotate_shift.md R205). -/
inductive RotOp where
  | RLC | RRC | RL | RR | SLA | SRA | SLL | SRL
deriving DecidableEq, Repr

/-- The effective addresses of 45_load_exchange.md R280: a pair, an index register with its signed displacement, or an
immediate address. -/
inductive Ea where
  | HL
  | BC
  | DE
  | idx (x : Idx) (d : Int)
  | abs (nn : Word)
deriving DecidableEq, Repr

/-- An 8-bit operand that can be read and written: a register, an index half, a byte of memory. -/
inductive Place8 where
  | reg (r : Reg8)
  | half (x : Idx) (h : Side)
  | mem (ea : Ea)
deriving DecidableEq, Repr

/-- An 8-bit source: a place or an immediate byte. -/
inductive Src8 where
  | place (p : Place8)
  | imm (n : Byte)
deriving DecidableEq, Repr

/-- The source operand `s` of the 8-bit ALU instructions, form by form (40_alu8.md R140). -/
inductive AluSrc where
  | reg (r : Reg8)
  | half (x : Idx) (h : Side)
  | memHL
  | memIdx (x : Idx) (d : Int)
  | imm (n : Byte)
deriving DecidableEq, Repr

/-- The operand `m` of 8-bit INC and DEC (40_alu8.md R159). -/
inductive IncPlace where
  | reg (r : Reg8)
  | half (x : Idx) (h : Side)
  | memHL
  | memIdx (x : Idx) (d : Int)
deriving DecidableEq, Repr

/-- The operand `m` of the CB layers: a register, (HL), (IX+d) or (IY+d) (R205, R230). -/
inductive CbPlace where
  | reg (r : Reg8)
  | memHL
  | memIdx (x : Idx) (d : Int)
deriving DecidableEq, Repr

def Reg5.reg : Reg5 → Reg8
  | .B => .B | .C => .C | .D => .D | .E => .E | .A => .A

def Rp.reg : Rp → Reg16
  | .BC => .BC | .DE => .DE | .HL => .HL | .SP => .SP

def Rr.reg : Rr → Reg16
  | .BC => .BC | .DE => .DE | .HL => .HL | .SP => .SP | .IX => .IX | .IY => .IY

def Qq.reg : Qq → Reg16
  | .BC => .BC | .DE => .DE | .HL => .HL | .AF => .AF | .IX => .IX | .IY => .IY

def Xx.reg : Xx → Reg16
  | .HL => .HL | .IX => .IX | .IY => .IY

def Idx.reg : Idx → Reg16
  | .IX => .IX | .IY => .IY

def BcDe.ea : BcDe → Ea
  | .BC => .BC | .DE => .DE

def JrCond.cond : JrCond → Cond
  | .NZ => .NZ | .Z => .Z | .NC => .NC | .C => .C

/-- The source of ADD dst,rr: code HL names the destination itself (R105(a), R180). -/
def Rp.addSource (dst : Xx) : Rp → Reg16
  | .BC => .BC | .DE => .DE | .HL => dst.reg | .SP => .SP

def AluSrc.src : AluSrc → Src8
  | .reg r => .place (.reg r)
  | .half x h => .place (.half x h)
  | .memHL => .place (.mem .HL)
  | .memIdx x d => .place (.mem (.idx x d))
  | .imm n => .imm n

def IncPlace.place : IncPlace → Place8
  | .reg r => .reg r
  | .half x h => .half x h
  | .memHL => .mem .HL
  | .memIdx x d => .mem (.idx x d)

def CbPlace.place : CbPlace → Place8
  | .reg r => .reg r
  | .memHL => .mem .HL
  | .memIdx x d => .mem (.idx x d)

/-- The instruction shapes of the spec's rules: each rule's instruction with its operands. `Form.instr` (Syntax.lean) names
the row of the opcode table that a shape with its operands is. A condition, a bit number or a register is an operand here and
part of the row's name there. -/
inductive Form where
  -- 40_alu8.md
  | alu (op : AluOp) (src : AluSrc)
  | incM (m : IncPlace)
  | decM (m : IncPlace)
  | daa | cpl | neg | ccf | scf
  -- 41_alu16.md
  | add16 (dst : Xx) (src : Rp)
  | adc16 (src : Rp)
  | sbc16 (src : Rp)
  | inc16 (rr : Rr)
  | dec16 (rr : Rr)
  -- 42_rotate_shift.md
  | rlca | rrca | rla | rra
  | rot (op : RotOp) (m : CbPlace)
  | rld | rrd
  -- 43_bit.md
  | bit (b : Fin 8) (m : CbPlace)
  | set (b : Fin 8) (m : CbPlace)
  | res (b : Fin 8) (m : CbPlace)
  -- 44_block.md
  | ldi | ldd | ldir | lddr
  | cpi | cpd | cpir | cpdr
  | ini | ind | inir | indr
  | outi | outd | otir | otdr
  -- 45_load_exchange.md, 8-bit loads
  | ldRegReg (dst src : Reg8)
  | ldRegImm (r : Reg8) (n : Byte)
  | ldRegHL (r : Reg8)
  | ldRegIdx (r : Reg8) (x : Idx) (d : Int)
  | ldHLReg (r : Reg8)
  | ldIdxReg (x : Idx) (d : Int) (r : Reg8)
  | ldHLImm (n : Byte)
  | ldIdxImm (x : Idx) (d : Int) (n : Byte)
  | ldAPair (p : BcDe)
  | ldAMem (nn : Word)
  | ldPairA (p : BcDe)
  | ldMemA (nn : Word)
  | ldRegHalf (r : Reg5) (x : Idx) (h : Side)
  | ldHalfReg (x : Idx) (h : Side) (r : Reg5)
  | ldHalfHalf (x : Idx) (dst src : Side)
  | ldHalfImm (x : Idx) (h : Side) (n : Byte)
  | ldAI | ldAR | ldIA | ldRA
  -- 45_load_exchange.md, 16-bit loads
  | ldRrImm (rr : Rr) (nn : Word)
  | ldHLMem (nn : Word)
  | ldRpMem (p : Rp) (nn : Word)
  | ldIdxMem (x : Idx) (nn : Word)
  | stHLMem (nn : Word)
  | stRpMem (p : Rp) (nn : Word)
  | stIdxMem (x : Idx) (nn : Word)
  | ldSP (xx : Xx)
  -- 45_load_exchange.md, exchanges and the stack
  | exDEHL | exAF | exx
  | exSP (xx : Xx)
  | push (q : Qq)
  | pop (q : Qq)
  -- 46_control_flow.md
  | jp (nn : Word)
  | jpCc (c : Cond) (nn : Word)
  | jr (e : Int)
  | jrCc (c : JrCond) (e : Int)
  | jpReg (xx : Xx)
  | djnz (e : Int)
  | call (nn : Word)
  | callCc (c : Cond) (nn : Word)
  | ret
  | retCc (c : Cond)
  | reti | retn
  | rst (y : Fin 8)
  -- 47_io.md
  | inReg (r : Reg8)
  | inA (n : Byte)
  | outReg (r : Reg8)
  | outA (n : Byte)
  -- 48_cpu_control.md
  | nop | halt | di | ei
  | im (m : IntMode)
deriving DecidableEq, Repr

end Sys2Proof
end

