-- ==== Sys2Proof/Config.lean ====
section
/-! DEFINITION. The named parameters of the spec (00_scope.md R8) with the values this hardware takes, and the free values:
what the spec leaves to a device or leaves open. A free value is an opaque constant, so that nothing in Lean can evaluate it. -/

namespace Sys2Proof

/-- `R_REFRESH` (R8, R34): does an opcode fetch count R? -/
inductive RRefresh where
  | frozen
  | m1
deriving DecidableEq, Repr

/-- The four named parameters of R8 that select a behaviour of the core. -/
structure Params where
  /-- `R_REFRESH` (R34). -/
  rRefresh : RRefresh
  /-- `EI_DELAY` (R394). -/
  eiDelay : Bool
  /-- `NMI_CLEARS_IFF1` (R430). -/
  nmiClearsIff1 : Bool
  /-- `INT_CLEARS_IFF2` (R421). -/
  intClearsIff2 : Bool
deriving DecidableEq, Repr

namespace Config

/-- The values this hardware takes (R8; decisions D7, D8, D10, D11; log entry 9). -/
def params : Params where
  rRefresh := .frozen
  eiDelay := false
  nmiClearsIff1 := false
  intClearsIff2 := false

/-- What a byte of memory that no cell lists reads as. The spec leaves the initial content of `PLAIN_RAM` to the host (R77);
its test vectors take every byte not named as 0. DESIGN CHOICE, log entry 2 (unsafe). -/
def unlistedByte : Byte := 0

/-- Free value: the byte the I/O device answers at the k-th draw when the host has scripted no answer (R63, R8 `IO`; log
entry 3, safe). -/
opaque portAnswer : Nat → Word → Byte

/-- Free value: the byte an external memory device answers at the k-th draw when the host has scripted no answer (R63, R8 `MEM`;
log entry 1, safe). -/
opaque memAnswer : Nat → Word → Byte

/-- Free value: F5 after BIT b,(HL), SCF and CCF at the k-th draw (R231, R164, R165; log entry 4, safe). -/
opaque freeF5 : Nat → Bool

/-- Free value: F3 after BIT b,(HL), SCF and CCF at the k-th draw (R231, R164, R165; log entry 4, safe). -/
opaque freeF3 : Nat → Bool

end Config

end Sys2Proof
end

