-- ==== Sys2Proof/Machine/State.lean ====
section
/-! DEFINITION. The state of the core (10_state.md R20), the memory it exchanges bytes with, the host's inputs, the record of the
accesses it issues, the errors it reports, and the state after reset (R50). Every field is plain data. -/

namespace Sys2Proof.Machine

/-- The flag state: eight named booleans (10_state.md R20, R26). F is their packing, not a stored byte. -/
structure Flags where
  S : Bool
  Z : Bool
  F5 : Bool
  H : Bool
  F3 : Bool
  PV : Bool
  N : Bool
  C : Bool
deriving DecidableEq, Repr

/-- The contents of a memory device (20_memory.md R77) as data: the bytes that differ from `Config.unlistedByte`, by rising
address (log entry 1). -/
abbrev Memory := List Host.Cell

/-- The memory device the core is given: the parameter `MEM` (00_scope.md R8, 20_memory.md R63; log entry 1). -/
inductive MemDevice where
  /-- `PLAIN_RAM` (R77): every write is kept, and a read answers the contents. -/
  | plainRam
  /-- `PLAIN_RAM` but for regions, each from its first to its last address, in which a write is ignored: R63 lets a device do
  so, "ROM write-protection". -/
  | protectedRam (regions : List (Word × Word))
  /-- Any other device: each read is a draw, the next scripted answer or a free value, and a write is an event the device
  receives and may do anything with (R63). -/
  | external
deriving DecidableEq, Repr

/-- One request the core issues to a device, with the byte that goes with it (20_memory.md R60, R61, R62; 00_scope.md R6). -/
inductive Access where
  | memRead (addr : Word) (v : Byte)
  | memWrite (addr : Word) (v : Byte)
  | ioRead (port : Word) (v : Byte)
  | ioWrite (port : Word) (v : Byte)
  | dataBus (v : Byte)
deriving DecidableEq, Repr

/-- A field of R20 as the host names it when it writes core state between two events (70_reset_and_hazards.md R452). -/
inductive HostField where
  | A | F | B | C | D | E | H | L
  | A' | F' | B' | C' | D' | E' | H' | L'
  | IX | IY | SP | PC | I | R | IFF1 | IFF2 | IM | Halted
deriving DecidableEq, Repr

/-- What the host does next: one of the four events of 60_exceptions.md R440, or a write of core state between two events
(R452). `maskable bus` is a maskable request; `bus` is what `data_bus_value()` answers if the acceptance asks for it
(parameter `DATA_BUS` of R8, R62; log entry 10). -/
inductive HostAction where
  | step
  | maskable (bus : Byte)
  | nmi
  | reset
  | write (field : HostField) (v : Nat)
deriving DecidableEq, Repr

/-- The errors of 60_exceptions.md. Each ends its event and is reported to the caller, in `State.report`: the core goes on, so no
step of the model answers `Host.Outcome.fault` (R410, R413; log entry 14). -/
inductive Fault where
  /-- E1 DecodeError (R410), reported by a `step()` whose bytes no decode layer defines: the address of the first byte and the
  bytes fetched (R106). Safe: the spec names this error and its effect. -/
  | decodeError (pc0 : Word) (bytes : List Byte)
  /-- E2 InvalidConditionCode (R411). Reported by nothing: conditions are a closed enumeration of eight values, which R411 says
  cannot reach it. Safe. -/
  | invalidConditionCode (pc0 : Word)
  /-- E3 InvalidInterruptMode (R412), reported by a host write of IM outside 0, 1 and 2, with the value written. The write is
  rejected (R452). Safe: the spec names this error and its effect. -/
  | invalidInterruptMode (v : Nat)
deriving DecidableEq, Repr

/-- The state. The fields down to `Halted` are the fields of R20, under the spec's names. -/
structure State where
  /-- A, B, C, D, E, H, L: the main register set (R20). -/
  A : Byte
  B : Byte
  C : Byte
  D : Byte
  E : Byte
  H : Byte
  L : Byte
  /-- The eight flags (R20, R26). -/
  F : Flags
  /-- A', F', B', C', D', E', H', L': the shadow set (R24). F' is stored as a byte. -/
  A' : Byte
  F' : Byte
  B' : Byte
  C' : Byte
  D' : Byte
  E' : Byte
  H' : Byte
  L' : Byte
  /-- Index registers (R25). -/
  IX : Word
  IY : Word
  /-- Stack pointer (R32). -/
  SP : Word
  /-- Program counter; PCn while an instruction executes (R31). -/
  PC : Word
  /-- Interrupt vector base (R33). -/
  I : Byte
  /-- Memory refresh counter (R34). -/
  R : Byte
  /-- Maskable-interrupt enable (R35). -/
  IFF1 : Bool
  /-- Shadow enable (R36). -/
  IFF2 : Bool
  /-- Interrupt mode (R37). -/
  IM : IntMode
  /-- HALT state (R38). -/
  Halted : Bool
  /-- The extra bit R394 gives the core under `EI_DELAY = true` only. This hardware has `EI_DELAY = false`: nothing sets the
  bit and nothing reads it (R39; log entry 15). -/
  eiPending : Bool
  /-- The parameter `MEM` of R8: the memory device the core references. No event changes it (log entry 1). -/
  memDevice : MemDevice
  /-- The contents of the memory device (R77). Not core state in the spec: the device's. An external device has none here. -/
  mem : Memory
  /-- MODEL'S OWN: the answers scripted for the coming reads of an external memory device, the next one first (R8 `MEM`, log
  entry 1). -/
  memAnswers : List Byte
  /-- MODEL'S OWN: the answers the host has scripted for the coming port reads, the next one first (R8 `IO`, log entry 3). -/
  portAnswers : List Byte
  /-- MODEL'S OWN: how many free values were drawn (log entries 1, 3 and 4). -/
  draws : Nat
  /-- MODEL'S OWN: the requests the last event issued, in order (R6, R69, R72; log entry 5). -/
  accesses : List Access
  /-- MODEL'S OWN: the error the last event, or the last host write, reported to its caller; none where it completed (R410,
  R413; log entry 14). -/
  report : Option Fault
  /-- MODEL'S OWN: what the host does at the coming steps of the model, the next one first; with nothing listed the host calls
  `step()` (R440, log entry 6). -/
  schedule : List HostAction
deriving DecidableEq, Repr

/-- Instructions without a meaning. -/
inductive Refusal where
  /-- The instruction has no meaning in this model yet, by its mnemonic. Raised by no arm: every row of the opcode table is
  modelled. Safe. -/
  | notModelled (mnemonic : String)
deriving DecidableEq, Repr

/-- What an instruction or a step answers. -/
abbrev Result := Host.Outcome State Fault Refusal

/-- All flags 0. -/
def Flags.zero : Flags where
  S := false
  Z := false
  F5 := false
  H := false
  F3 := false
  PV := false
  N := false
  C := false

/-- The machine right after reset: every field of R20 is zero (10_state.md R50), the memory device is the spec's reference device
(log entry 1) and lists nothing (log entry 2), no answer is scripted, nothing is recorded, reported or scheduled. -/
def State.reset : State where
  A := 0
  B := 0
  C := 0
  D := 0
  E := 0
  H := 0
  L := 0
  F := Flags.zero
  A' := 0
  F' := 0
  B' := 0
  C' := 0
  D' := 0
  E' := 0
  H' := 0
  L' := 0
  IX := 0
  IY := 0
  SP := 0
  PC := 0
  I := 0
  R := 0
  IFF1 := false
  IFF2 := false
  IM := .im0
  Halted := false
  eiPending := false
  memDevice := .plainRam
  mem := []
  memAnswers := []
  portAnswers := []
  draws := 0
  accesses := []
  report := none
  schedule := []

end Sys2Proof.Machine
end

