-- ==== Sys2Proof/Machine/Flags.lean ====
section
/-! DEFINITION. The flag codec (10_state.md R26), the conditions (46_control_flow.md R330) and every flag computation of the spec.
Each computation takes the old flags and answers the new ones; a flag a rule does not name is the old flag (R27). -/

namespace Sys2Proof.Machine

/-- `pack()` (R26): S(7) Z(6) F5(5) H(4) F3(3) PV(2) N(1) C(0). -/
def Flags.pack (f : Flags) : Byte :=
  BitVec.ofNat 8 (bitNat f.S * 128 + bitNat f.Z * 64 + bitNat f.F5 * 32 + bitNat f.H * 16 +
    bitNat f.F3 * 8 + bitNat f.PV * 4 + bitNat f.N * 2 + bitNat f.C)

/-- `unpack(b)` (R26): every flag is replaced. -/
def Flags.unpack (b : Byte) : Flags where
  S := b.getLsbD 7
  Z := b.getLsbD 6
  F5 := b.getLsbD 5
  H := b.getLsbD 4
  F3 := b.getLsbD 3
  PV := b.getLsbD 2
  N := b.getLsbD 1
  C := b.getLsbD 0

/-- `condition(code)` (R330). -/
def condition (c : Cond) (f : Flags) : Bool :=
  match c with
  | .NZ => !f.Z
  | .Z => f.Z
  | .NC => !f.C
  | .C => f.C
  | .PO => !f.PV
  | .PE => f.PV
  | .P => !f.S
  | .M => f.S

/-- `szxy(v8)` (R13): S, Z, F5 and F3 from a byte. -/
def szxy (v : Byte) (f : Flags) : Flags :=
  { f with S := v.getLsbD 7, Z := decide (v = 0), F5 := v.getLsbD 5, F3 := v.getLsbD 3 }

/-- `add8(a, b, c)` (R141). -/
def add8 (a b : Byte) (c : Bool) (f : Flags) : Byte × Flags :=
  let t := a.toNat + b.toNat + bitNat c
  let res := BitVec.ofNat 8 t
  (res,
    { szxy res f with
      H := decide (a.toNat % 16 + b.toNat % 16 + bitNat c > 15)
      PV := decide ((a ^^^ b ^^^ 0x80) &&& (a ^^^ res) &&& 0x80 ≠ 0)
      N := false
      C := decide (t > 255) })

/-- `sub8(a, b, c)` (R142). -/
def sub8 (a b : Byte) (c : Bool) (f : Flags) : Byte × Flags :=
  let t : Int := (a.toNat : Int) - b.toNat - bitNat c
  let res := BitVec.ofInt 8 t
  (res,
    { szxy res f with
      H := decide (((a.toNat % 16 : Nat) : Int) - (b.toNat % 16 : Nat) - bitNat c < 0)
      PV := decide ((a ^^^ b) &&& (a ^^^ res) &&& 0x80 ≠ 0)
      N := true
      C := decide (t < 0) })

/-- `logic(res, h)` (R143). -/
def logic8 (res : Byte) (h : Bool) (f : Flags) : Byte × Flags :=
  (res, { szxy res f with H := h, PV := parity res, N := false, C := false })

/-- `inc8(v)` (R144): C is not touched. -/
def inc8 (v : Byte) (f : Flags) : Byte × Flags :=
  let res := BitVec.ofNat 8 (v.toNat + 1)
  (res,
    { szxy res f with
      H := decide (v.toNat % 16 = 15)
      PV := decide (v = 0x7F)
      N := false })

/-- `dec8(v)` (R145): C is not touched. -/
def dec8 (v : Byte) (f : Flags) : Byte × Flags :=
  let res := BitVec.ofInt 8 ((v.toNat : Int) - 1)
  (res,
    { szxy res f with
      H := decide (v.toNat % 16 = 0)
      PV := decide (v = 0x80)
      N := true })

/-- The two-operand ALU operations on A and s (R151 to R158): the new A and the new flags. CP discards the difference, keeps A
and takes F5 and F3 from the operand (R158). -/
def alu8 (op : AluOp) (a s : Byte) (f : Flags) : Byte × Flags :=
  match op with
  | .ADD => add8 a s false f
  | .ADC => add8 a s f.C f
  | .SUB => sub8 a s false f
  | .SBC => sub8 a s f.C f
  | .AND => logic8 (a &&& s) true f
  | .XOR => logic8 (a ^^^ s) false f
  | .OR => logic8 (a ||| s) false f
  | .CP => (a, { (sub8 a s false f).2 with F5 := s.getLsbD 5, F3 := s.getLsbD 3 })

/-- DAA (R161): N is not touched. -/
def daa8 (a : Byte) (f : Flags) : Byte × Flags :=
  let low := f.H || decide (a.toNat % 16 > 9)
  let high := f.C || decide (a.toNat > 0x99)
  let diff : Nat := (if low then 0x06 else 0) ||| (if high then 0x60 else 0)
  let res : Byte := if f.N then BitVec.ofInt 8 ((a.toNat : Int) - diff) else BitVec.ofNat 8 (a.toNat + diff)
  let h := if f.N then f.H && decide (a.toNat % 16 < 6) else decide (a.toNat % 16 > 9)
  (res, { szxy res f with H := h, PV := parity res, C := high })

/-- CPL (R162). -/
def cpl8 (a : Byte) (f : Flags) : Byte × Flags :=
  let res := ~~~a
  (res, { f with F5 := res.getLsbD 5, F3 := res.getLsbD 3, H := true, N := true })

/-- CCF (R164), F5 and F3 being the free values `f5` and `f3`. -/
def ccfFlags (f5 f3 : Bool) (f : Flags) : Flags :=
  { f with F5 := f5, F3 := f3, H := f.C, C := !f.C, N := false }

/-- SCF (R165), F5 and F3 being the free values `f5` and `f3`. -/
def scfFlags (f5 f3 : Bool) (f : Flags) : Flags :=
  { f with F5 := f5, F3 := f3, H := false, C := true, N := false }

/-- ADD HL,rr and its index forms (R181): S, Z and PV are not touched. -/
def addWord (a b : Word) (f : Flags) : Word × Flags :=
  let t := a.toNat + b.toNat
  let res := BitVec.ofNat 16 t
  (res,
    { f with
      H := decide (a.toNat % 4096 + b.toNat % 4096 > 4095)
      N := false
      C := decide (t > 65535)
      F5 := res.getLsbD 13
      F3 := res.getLsbD 11 })

/-- ADC HL,rr (R182). -/
def adcWord (a b : Word) (f : Flags) : Word × Flags :=
  let t := a.toNat + b.toNat + bitNat f.C
  let res := BitVec.ofNat 16 t
  (res,
    { S := res.getLsbD 15
      Z := decide (res = 0)
      F5 := res.getLsbD 13
      F3 := res.getLsbD 11
      H := decide (a.toNat % 4096 + b.toNat % 4096 + bitNat f.C > 4095)
      PV := decide ((a ^^^ b ^^^ 0x8000) &&& (a ^^^ res) &&& 0x8000 ≠ 0)
      N := false
      C := decide (t > 65535) })

/-- SBC HL,rr (R183). -/
def sbcWord (a b : Word) (f : Flags) : Word × Flags :=
  let t : Int := (a.toNat : Int) - b.toNat - bitNat f.C
  let res := BitVec.ofInt 16 t
  (res,
    { S := res.getLsbD 15
      Z := decide (res = 0)
      F5 := res.getLsbD 13
      F3 := res.getLsbD 11
      H := decide (((a.toNat % 4096 : Nat) : Int) - (b.toNat % 4096 : Nat) - bitNat f.C < 0)
      PV := decide ((a ^^^ b) &&& (a ^^^ res) &&& 0x8000 ≠ 0)
      N := true
      C := decide (t < 0) })

/-- The accumulator rotates (R200): S, Z and PV are not touched; C is the bit shifted out. -/
def accRotFlags (res : Byte) (co : Bool) (f : Flags) : Flags :=
  { f with F5 := res.getLsbD 5, F3 := res.getLsbD 3, H := false, N := false, C := co }

/-- The result and the carry out of the rotates and shifts (R206 to R213), from the byte and the carry in. -/
def rotByte (op : RotOp) (v : Byte) (c : Bool) : Byte × Bool :=
  match op with
  | .RLC => ((v <<< 1) ||| BitVec.ofNat 8 (bitNat (v.getLsbD 7)), v.getLsbD 7)
  | .RRC => ((v >>> 1) ||| (BitVec.ofNat 8 (bitNat (v.getLsbD 0)) <<< 7), v.getLsbD 0)
  | .RL => ((v <<< 1) ||| BitVec.ofNat 8 (bitNat c), v.getLsbD 7)
  | .RR => ((v >>> 1) ||| (BitVec.ofNat 8 (bitNat c) <<< 7), v.getLsbD 0)
  | .SLA => (v <<< 1, v.getLsbD 7)
  | .SRA => ((v >>> 1) ||| (v &&& 0x80), v.getLsbD 0)
  | .SLL => ((v <<< 1) ||| 1, v.getLsbD 7)
  | .SRL => (v >>> 1, v.getLsbD 0)

/-- The flags a CB rotate or shift leaves (R205). -/
def rotFlags (res : Byte) (co : Bool) (f : Flags) : Flags :=
  { szxy res f with H := false, PV := parity res, N := false, C := co }

/-- A CB rotate or shift on a byte (R205): the result and the flags. -/
def rot8 (op : RotOp) (v : Byte) (f : Flags) : Byte × Flags :=
  let r := rotByte op v f.C
  (r.1, rotFlags r.1 r.2 f)

/-- S, Z, F5, F3 from a byte, H and N 0, PV as given, C not touched: RLD and RRD (R215, R216), IN r,(C) (R371), LD A,I and
LD A,R (R296, R297). -/
def byteFlags (v : Byte) (pv : Bool) (f : Flags) : Flags :=
  { szxy v f with H := false, PV := pv, N := false }

/-- BIT b,m (R231), F5 and F3 as given: C is not touched. -/
def bitFlags (b : Fin 8) (v : Byte) (f5 f3 : Bool) (f : Flags) : Flags :=
  { f with
    S := decide (b = 7) && v.getLsbD b
    Z := !v.getLsbD b
    F5 := f5
    H := true
    F3 := f3
    PV := !v.getLsbD b
    N := false }

/-- LDI and LDD (R251): `v` the byte moved, `a` the accumulator, `bc` the counter after its decrement. S, Z and C are not
touched. -/
def blockLdFlags (v a : Byte) (bc : Word) (f : Flags) : Flags :=
  let n := v + a
  { f with F5 := n.getLsbD 1, H := false, F3 := n.getLsbD 3, PV := decide (bc ≠ 0), N := false }

/-- CPI and CPD (R256): `bc` the counter after its decrement. C is not touched. -/
def blockCpFlags (a v : Byte) (bc : Word) (f : Flags) : Flags :=
  let res := a - v
  let h := decide (a.toNat % 16 < v.toNat % 16)
  let n := res - BitVec.ofNat 8 (bitNat h)
  { f with
    S := res.getLsbD 7
    Z := decide (res = 0)
    F5 := n.getLsbD 1
    H := h
    F3 := n.getLsbD 3
    PV := decide (bc ≠ 0)
    N := true }

/-- The block I/O instructions (R260): `v` the byte transferred, `b` register B after its decrement, `k` the 9-bit sum. -/
def blockIoFlags (v b : Byte) (k : Nat) (f : Flags) : Flags :=
  { szxy b f with
    N := v.getLsbD 7
    H := decide (k > 255)
    C := decide (k > 255)
    PV := parity (BitVec.ofNat 8 (k % 8) ^^^ b) }

end Sys2Proof.Machine
end

