-- ==== Sys2Proof/Machine/Ops.lean ====
section
/-! DEFINITION. The named operations over memory, ports and the stack, and taking an interrupt and returning from one
(20_memory.md, 45_load_exchange.md R320, R321, 60_exceptions.md). Every operation that reaches a device records the request. -/

namespace Sys2Proof.Machine

/-! ## The contents of a memory device (R77) -/

/-- The byte at address `a` (R77). -/
def Memory.read (m : Memory) (a : Nat) : Byte :=
  match m with
  | [] => Config.unlistedByte
  | (k, v) :: rest => if k = a then v else Memory.read rest a

/-- The cells at other addresses. -/
def Memory.erase (m : Memory) (a : Nat) : Memory := m.filter (fun c => decide (c.1 ≠ a))

/-- A cell put where its address belongs. -/
def Memory.insert (m : Memory) (a : Nat) (v : Byte) : Memory :=
  match m with
  | [] => [(a, v)]
  | (k, w) :: rest => if a < k then (a, v) :: (k, w) :: rest else (k, w) :: Memory.insert rest a v

/-- `write(a, v)` (R77). A byte equal to what an unlisted address reads as is not listed, so that equal memories are equal
data. -/
def Memory.write (m : Memory) (a : Nat) (v : Byte) : Memory :=
  if v = Config.unlistedByte then m.erase a else (m.erase a).insert a v

/-- The canonical form: addresses strictly rising, all of them 16-bit, no cell that an unlisted address reads as. -/
def Memory.wf (m : Memory) : Bool :=
  match m with
  | [] => true
  | (k, v) :: rest =>
    decide (k < 65536) && decide (v ≠ Config.unlistedByte) && rest.all (fun c => decide (k < c.1)) && Memory.wf rest

/-! ## The memory device (R63) -/

/-- Does the device keep a write to `a`? -/
def MemDevice.keeps (d : MemDevice) (a : Word) : Bool :=
  match d with
  | .plainRam => true
  | .protectedRam regions => regions.all (fun r => decide (a < r.1) || decide (r.2 < a))
  | .external => false

/-- The contents after the device received `write(a, v)` (R63, R77). -/
def MemDevice.write (d : MemDevice) (m : Memory) (a : Word) (v : Byte) : Memory := if d.keeps a then m.write a.toNat v else m

/-- How many draws `n` reads are: `n` on an external device, none on one whose answers are its contents. -/
def MemDevice.draws (d : MemDevice) (n : Nat) : Nat :=
  match d with
  | .plainRam => 0
  | .protectedRam _ => 0
  | .external => n

/-! ## Requests to the devices -/

/-- The request recorded after those of this event so far (R69). -/
def State.log (s : State) (x : Access) : State := { s with accesses := s.accesses ++ [x] }

/-- An error reported to the caller (60_exceptions.md R410, R413): it never vectors, never pushes and never halts the core. -/
def State.raise (s : State) (f : Fault) : State := { s with report := some f }

/-- The byte the memory device holds at `a`. -/
def State.stored (s : State) (a : Word) : Byte := s.mem.read a.toNat

/-- What the memory device answers if, after `k` other reads, `a` is read: its contents, or a draw, which is the scripted
answer or a free value (R63, `MEM` of R8). No request is issued. -/
def State.memAnswer (s : State) (k : Nat) (a : Word) : Byte :=
  match s.memDevice with
  | .plainRam => s.stored a
  | .protectedRam _ => s.stored a
  | .external =>
    match s.memAnswers[k]? with
    | some v => v
    | none => Config.memAnswer (s.draws + k) a

/-- What the memory device answers to the next read, if it is of `a`. -/
def State.peek (s : State) (a : Word) : Byte := s.memAnswer 0 a

/-- `MemRead(a, 1)` (R60): one draw where the device's answers are draws (R63). -/
def State.memRead (s : State) (a : Word) : Byte × State :=
  (s.peek a, { s with
    memAnswers := s.memAnswers.drop (s.memDevice.draws 1)
    draws := s.draws + s.memDevice.draws 1
    accesses := s.accesses ++ [.memRead a (s.peek a)] })

/-- `MemWrite(a, 1, v)` (R60). -/
def State.memWrite (s : State) (a : Word) (v : Byte) : State :=
  { s with mem := s.memDevice.write s.mem a v }.log (.memWrite a v)

/-- `MemRead(a, 2)`: low byte first (R66, R72). -/
def State.memReadWord (s : State) (a : Word) : Word × State :=
  let lo := s.memRead a
  let hi := lo.2.memRead (nextAddr a)
  (joinBytes hi.1 lo.1, hi.2)

/-- `MemWrite(a, 2, v)`: low byte first (R66, R72). -/
def State.memWriteWord (s : State) (a : Word) (v : Word) : State :=
  (s.memWrite a (loByte v)).memWrite (nextAddr a) (hiByte v)

/-- What the I/O device answers to the next read of `port`: the scripted answer, or a free value (R63, `IO` of R8). -/
def State.portAnswer (s : State) (port : Word) : Byte :=
  match s.portAnswers with
  | [] => Config.portAnswer s.draws port
  | v :: _ => v

/-- `IORead(port)` (R61). -/
def State.ioRead (s : State) (port : Word) : Byte × State :=
  let v := s.portAnswer port
  (v, { s with portAnswers := s.portAnswers.tail, draws := s.draws + 1 }.log (.ioRead port v))

/-- `IOWrite(port, v)` (R61). -/
def State.ioWrite (s : State) (port : Word) (v : Byte) : State := s.log (.ioWrite port v)

/-! ## The stack -/

/-- `push16(v)` (R320): high byte first, SP decremented before each byte. -/
def State.push16 (s : State) (v : Word) : State :=
  let s := { s with SP := s.SP - 1 }
  let s := s.memWrite s.SP (hiByte v)
  let s := { s with SP := s.SP - 1 }
  s.memWrite s.SP (loByte v)

/-- `pop16()` (R321): low byte first, SP incremented after each byte. -/
def State.pop16 (s : State) : Word × State :=
  let lo := s.memRead s.SP
  let s := { lo.2 with SP := lo.2.SP + 1 }
  let hi := s.memRead s.SP
  let s := { hi.2 with SP := hi.2.SP + 1 }
  (joinBytes hi.1 lo.1, s)

/-! ## The refresh counter -/

/-- `k` opcode fetches as R counts them (R34): not at all under `R_REFRESH = frozen`, in bits 6..0 under `m1`. -/
def refresh (p : Params) (k : Nat) (s : State) : State :=
  match p.rRefresh with
  | .frozen => s
  | .m1 => { s with R := (s.R &&& 0x80) ||| ((s.R + BitVec.ofNat 8 k) &&& 0x7F) }

/-! ## Taking an interrupt, and returning from one -/

/-- The halted state ends and PC passes the HALT byte (R423, R431); a running core is unchanged. -/
def wake (s : State) : State := if s.Halted then { s with Halted := false, PC := s.PC + 1 } else s

/-- What every interrupt entry does before it vectors (R425, R430): wake, leave the enables as given, push PC. -/
def interruptEntry (iff1 iff2 : Bool) (s : State) : State :=
  let s := wake s
  let s := { s with IFF1 := iff1, IFF2 := iff2 }
  s.push16 s.PC

/-- The vector of a maskable interrupt (R424): 0x0038 in modes 0 and 1; in mode 2 the word at `(I << 8) | bus`, `bus` being
what `data_bus_value()` answers, asked for once. -/
def maskableVector (bus : Byte) (s : State) : State :=
  match s.IM with
  | .im0 => { s with PC := 0x0038 }
  | .im1 => { s with PC := 0x0038 }
  | .im2 =>
    let s := s.log (.dataBus bus)
    let r := s.memReadWord (joinBytes s.I bus)
    { r.2 with PC := r.1 }

/-- `maskable_interrupt()` (R425): with IFF1 = 0, or under `EI_DELAY = true` right after EI (R394), the request is discarded
(R421). -/
def maskableInterrupt (p : Params) (bus : Byte) (s : State) : State :=
  if !s.IFF1 || (p.eiDelay && s.eiPending) then s
  else refresh p 1 (maskableVector bus (interruptEntry false (!p.intClearsIff2 && s.IFF2) s))

/-- `non_maskable_interrupt()` (R430): IFF1 and IFF2 as they were, PC at 0x0066. -/
def nonMaskableInterrupt (p : Params) (s : State) : State :=
  refresh p 1 { interruptEntry (!p.nmiClearsIff1 && s.IFF1) s.IFF2 s with PC := 0x0066 }

/-- PC popped from the stack: RET (R339), and what RETI and RETN begin with. -/
def returnToCaller (s : State) : State :=
  let r := s.pop16
  { r.2 with PC := r.1 }

/-- The return from a maskable interrupt (R341): IFF1 becomes 1, IFF2 stays. -/
def returnFromMaskable (s : State) : State := { returnToCaller s with IFF1 := true }

/-- The return from an NMI (R342): IFF1 takes IFF2's value, IFF2 stays. -/
def returnFromNonMaskable (s : State) : State := { returnToCaller s with IFF1 := s.IFF2 }

/-- The reset event (R450): every field of R20 at its reset value; memory, the devices and the host's plans stay. -/
def resetEvent (s : State) : State :=
  { State.reset with
    memDevice := s.memDevice, mem := s.mem, memAnswers := s.memAnswers, portAnswers := s.portAnswers, draws := s.draws,
    schedule := s.schedule }

end Sys2Proof.Machine
end

