-- ==== Sys2Proof/Machine/Operands.lean ====
section
/-! DEFINITION. Reading and writing the operands of instructions: registers, pairs, index halves, effective addresses and memory
bytes (10_state.md R22 to R25; 45_load_exchange.md R280). -/

namespace Sys2Proof.Machine

/-- An 8-bit register's value (R22). -/
def State.get8 (s : State) (r : Reg8) : Byte :=
  match r with
  | .B => s.B
  | .C => s.C
  | .D => s.D
  | .E => s.E
  | .H => s.H
  | .L => s.L
  | .A => s.A

/-- An 8-bit register written (R22); flags are not touched (R23). -/
def State.set8 (s : State) (r : Reg8) (v : Byte) : State :=
  match r with
  | .B => { s with B := v }
  | .C => { s with C := v }
  | .D => { s with D := v }
  | .E => { s with E := v }
  | .H => { s with H := v }
  | .L => { s with L := v }
  | .A => { s with A := v }

/-- A pair or 16-bit register's value, the first-named half the high byte; AF packs the flags (R23, R26). -/
def State.get16 (s : State) (r : Reg16) : Word :=
  match r with
  | .BC => joinBytes s.B s.C
  | .DE => joinBytes s.D s.E
  | .HL => joinBytes s.H s.L
  | .AF => joinBytes s.A s.F.pack
  | .SP => s.SP
  | .IX => s.IX
  | .IY => s.IY

/-- A pair or 16-bit register written; AF unpacks the flags (R23, R26). -/
def State.set16 (s : State) (r : Reg16) (v : Word) : State :=
  match r with
  | .BC => { s with B := hiByte v, C := loByte v }
  | .DE => { s with D := hiByte v, E := loByte v }
  | .HL => { s with H := hiByte v, L := loByte v }
  | .AF => { s with A := hiByte v, F := Flags.unpack (loByte v) }
  | .SP => { s with SP := v }
  | .IX => { s with IX := v }
  | .IY => { s with IY := v }

/-- A half of an index register (R25). -/
def State.getHalf (s : State) (x : Idx) (h : Side) : Byte :=
  match h with
  | .H => hiByte (s.get16 x.reg)
  | .L => loByte (s.get16 x.reg)

/-- A half of an index register written; the other half stays (R25). -/
def State.setHalf (s : State) (x : Idx) (h : Side) (v : Byte) : State :=
  match h with
  | .H => s.set16 x.reg (joinBytes v (loByte (s.get16 x.reg)))
  | .L => s.set16 x.reg (joinBytes (hiByte (s.get16 x.reg)) v)

/-- The effective address (R280), mod 2^16. -/
def State.addr (s : State) (ea : Ea) : Word :=
  match ea with
  | .HL => s.get16 .HL
  | .BC => s.get16 .BC
  | .DE => s.get16 .DE
  | .idx x d => s.get16 x.reg + BitVec.ofInt 16 d
  | .abs nn => nn

/-- The byte an 8-bit operand holds, read with one request where it is in memory (R140). -/
def State.readPlace (s : State) (p : Place8) : Byte × State :=
  match p with
  | .reg r => (s.get8 r, s)
  | .half x h => (s.getHalf x h, s)
  | .mem ea => s.memRead (s.addr ea)

/-- An 8-bit operand written, with one request where it is in memory. -/
def State.writePlace (s : State) (p : Place8) (v : Byte) : State :=
  match p with
  | .reg r => s.set8 r v
  | .half x h => s.setHalf x h v
  | .mem ea => s.memWrite (s.addr ea) v

/-- An 8-bit source read. -/
def State.readSrc (s : State) (src : Src8) : Byte × State :=
  match src with
  | .place p => s.readPlace p
  | .imm n => (n, s)

/-- A byte replaced by a function of itself and the flags: one read, then one write of the same place (20_memory.md R68). -/
def State.modify (s : State) (p : Place8) (f : Byte → Flags → Byte × Flags) : State :=
  let r := s.readPlace p
  let q := f r.1 s.F
  { r.2 with F := q.2 }.writePlace p q.1

end Sys2Proof.Machine
end

