-- ==== Sys2Proof/Machine/Alu16.lean ====
section
/-! DEFINITION. 16-bit arithmetic (41_alu16.md): the shared operations, then one meaning per instruction. -/

namespace Sys2Proof.Machine

/-- A 16-bit operation on a destination, a source and the flags (R181 to R183). -/
def opWord (f : Word → Word → Flags → Word × Flags) (dst src : Reg16) (s : State) : State :=
  let q := f (s.get16 dst) (s.get16 src) s.F
  { s with F := q.2 }.set16 dst q.1

/-- INC rr (R184) with `delta` 1, DEC rr (R185) with `delta` 0xFFFF: no flag is written. -/
def opStep16 (delta : Word) (r : Reg16) (s : State) : State := s.set16 r (s.get16 r + delta)

/-! ### R181 -/

/-- ADD HL,BC (R181). -/
def exec_add_HL_BC (s : State) : Result := .next (opWord addWord .HL .BC s)
/-- ADD HL,DE (R181). -/
def exec_add_HL_DE (s : State) : Result := .next (opWord addWord .HL .DE s)
/-- ADD HL,HL (R181). -/
def exec_add_HL_HL (s : State) : Result := .next (opWord addWord .HL .HL s)
/-- ADD HL,SP (R181). -/
def exec_add_HL_SP (s : State) : Result := .next (opWord addWord .HL .SP s)
/-- ADD IX,BC (R181). -/
def exec_add_IX_BC (s : State) : Result := .next (opWord addWord .IX .BC s)
/-- ADD IX,DE (R181). -/
def exec_add_IX_DE (s : State) : Result := .next (opWord addWord .IX .DE s)
/-- ADD IX,IX (R181). -/
def exec_add_IX_IX (s : State) : Result := .next (opWord addWord .IX .IX s)
/-- ADD IX,SP (R181). -/
def exec_add_IX_SP (s : State) : Result := .next (opWord addWord .IX .SP s)
/-- ADD IY,BC (R181). -/
def exec_add_IY_BC (s : State) : Result := .next (opWord addWord .IY .BC s)
/-- ADD IY,DE (R181). -/
def exec_add_IY_DE (s : State) : Result := .next (opWord addWord .IY .DE s)
/-- ADD IY,IY (R181). -/
def exec_add_IY_IY (s : State) : Result := .next (opWord addWord .IY .IY s)
/-- ADD IY,SP (R181). -/
def exec_add_IY_SP (s : State) : Result := .next (opWord addWord .IY .SP s)

/-! ### R182 -/

/-- ADC HL,BC (R182). -/
def exec_adc_HL_BC (s : State) : Result := .next (opWord adcWord .HL .BC s)
/-- ADC HL,DE (R182). -/
def exec_adc_HL_DE (s : State) : Result := .next (opWord adcWord .HL .DE s)
/-- ADC HL,HL (R182). -/
def exec_adc_HL_HL (s : State) : Result := .next (opWord adcWord .HL .HL s)
/-- ADC HL,SP (R182). -/
def exec_adc_HL_SP (s : State) : Result := .next (opWord adcWord .HL .SP s)

/-! ### R183 -/

/-- SBC HL,BC (R183). -/
def exec_sbc_HL_BC (s : State) : Result := .next (opWord sbcWord .HL .BC s)
/-- SBC HL,DE (R183). -/
def exec_sbc_HL_DE (s : State) : Result := .next (opWord sbcWord .HL .DE s)
/-- SBC HL,HL (R183). -/
def exec_sbc_HL_HL (s : State) : Result := .next (opWord sbcWord .HL .HL s)
/-- SBC HL,SP (R183). -/
def exec_sbc_HL_SP (s : State) : Result := .next (opWord sbcWord .HL .SP s)

/-! ### R184 -/

/-- INC BC (R184). -/
def exec_inc_BC (s : State) : Result := .next (opStep16 1 .BC s)
/-- INC DE (R184). -/
def exec_inc_DE (s : State) : Result := .next (opStep16 1 .DE s)
/-- INC HL (R184). -/
def exec_inc_HL (s : State) : Result := .next (opStep16 1 .HL s)
/-- INC SP (R184). -/
def exec_inc_SP (s : State) : Result := .next (opStep16 1 .SP s)
/-- INC IX (R184). -/
def exec_inc_IX (s : State) : Result := .next (opStep16 1 .IX s)
/-- INC IY (R184). -/
def exec_inc_IY (s : State) : Result := .next (opStep16 1 .IY s)

/-! ### R185 -/

/-- DEC BC (R185). -/
def exec_dec_BC (s : State) : Result := .next (opStep16 0xFFFF .BC s)
/-- DEC DE (R185). -/
def exec_dec_DE (s : State) : Result := .next (opStep16 0xFFFF .DE s)
/-- DEC HL (R185). -/
def exec_dec_HL (s : State) : Result := .next (opStep16 0xFFFF .HL s)
/-- DEC SP (R185). -/
def exec_dec_SP (s : State) : Result := .next (opStep16 0xFFFF .SP s)
/-- DEC IX (R185). -/
def exec_dec_IX (s : State) : Result := .next (opStep16 0xFFFF .IX s)
/-- DEC IY (R185). -/
def exec_dec_IY (s : State) : Result := .next (opStep16 0xFFFF .IY s)

end Sys2Proof.Machine
end

