-- ==== Sys2Proof/Machine/Alu8.lean ====
section
/-! DEFINITION. 8-bit arithmetic and logic (40_alu8.md): the shared operations, then one meaning per instruction. -/

namespace Sys2Proof.Machine

/-- The two-operand ALU instructions (R151 to R158): s is read, A and F take the operation's result. -/
def opAlu (op : AluOp) (src : AluSrc) (s : State) : State :=
  let r := s.readSrc src.src
  let q := alu8 op s.A r.1 s.F
  { r.2 with A := q.1, F := q.2 }

/-- INC m (R159). -/
def opInc8 (m : IncPlace) (s : State) : State := s.modify m.place inc8

/-- DEC m (R160). -/
def opDec8 (m : IncPlace) (s : State) : State := s.modify m.place dec8

/-- An operation on A and F alone. -/
def opAcc (f : Byte → Flags → Byte × Flags) (s : State) : State :=
  let q := f s.A s.F
  { s with A := q.1, F := q.2 }

/-- NEG (R163): 0 - A. -/
def neg8 (a : Byte) (f : Flags) : Byte × Flags := sub8 0 a false f

/-- CCF (R164): F5 and F3 are free values. -/
def opCcf (s : State) : State :=
  { s with F := ccfFlags (Config.freeF5 s.draws) (Config.freeF3 s.draws) s.F, draws := s.draws + 1 }

/-- SCF (R165): F5 and F3 are free values. -/
def opScf (s : State) : State :=
  { s with F := scfFlags (Config.freeF5 s.draws) (Config.freeF3 s.draws) s.F, draws := s.draws + 1 }

/-! ### R151 -/

/-- ADD A,B (R151). -/
def exec_add_A_B (s : State) : Result := .next (opAlu .ADD (.reg .B) s)
/-- ADD A,C (R151). -/
def exec_add_A_C (s : State) : Result := .next (opAlu .ADD (.reg .C) s)
/-- ADD A,D (R151). -/
def exec_add_A_D (s : State) : Result := .next (opAlu .ADD (.reg .D) s)
/-- ADD A,E (R151). -/
def exec_add_A_E (s : State) : Result := .next (opAlu .ADD (.reg .E) s)
/-- ADD A,H (R151). -/
def exec_add_A_H (s : State) : Result := .next (opAlu .ADD (.reg .H) s)
/-- ADD A,L (R151). -/
def exec_add_A_L (s : State) : Result := .next (opAlu .ADD (.reg .L) s)
/-- ADD A,(HL) (R151). -/
def exec_add_A_mHL (s : State) : Result := .next (opAlu .ADD .memHL s)
/-- ADD A,A (R151). -/
def exec_add_A_A (s : State) : Result := .next (opAlu .ADD (.reg .A) s)
/-- ADD A,n (R151). -/
def exec_add_A_n (n : Byte) (s : State) : Result := .next (opAlu .ADD (.imm n) s)
/-- ADD A,IXH (R151). -/
def exec_add_A_IXH (s : State) : Result := .next (opAlu .ADD (.half .IX .H) s)
/-- ADD A,IXL (R151). -/
def exec_add_A_IXL (s : State) : Result := .next (opAlu .ADD (.half .IX .L) s)
/-- ADD A,(IX+d) (R151). -/
def exec_add_A_mIXd (d : Int) (s : State) : Result := .next (opAlu .ADD (.memIdx .IX d) s)
/-- ADD A,IYH (R151). -/
def exec_add_A_IYH (s : State) : Result := .next (opAlu .ADD (.half .IY .H) s)
/-- ADD A,IYL (R151). -/
def exec_add_A_IYL (s : State) : Result := .next (opAlu .ADD (.half .IY .L) s)
/-- ADD A,(IY+d) (R151). -/
def exec_add_A_mIYd (d : Int) (s : State) : Result := .next (opAlu .ADD (.memIdx .IY d) s)

/-! ### R152 -/

/-- ADC A,B (R152). -/
def exec_adc_A_B (s : State) : Result := .next (opAlu .ADC (.reg .B) s)
/-- ADC A,C (R152). -/
def exec_adc_A_C (s : State) : Result := .next (opAlu .ADC (.reg .C) s)
/-- ADC A,D (R152). -/
def exec_adc_A_D (s : State) : Result := .next (opAlu .ADC (.reg .D) s)
/-- ADC A,E (R152). -/
def exec_adc_A_E (s : State) : Result := .next (opAlu .ADC (.reg .E) s)
/-- ADC A,H (R152). -/
def exec_adc_A_H (s : State) : Result := .next (opAlu .ADC (.reg .H) s)
/-- ADC A,L (R152). -/
def exec_adc_A_L (s : State) : Result := .next (opAlu .ADC (.reg .L) s)
/-- ADC A,(HL) (R152). -/
def exec_adc_A_mHL (s : State) : Result := .next (opAlu .ADC .memHL s)
/-- ADC A,A (R152). -/
def exec_adc_A_A (s : State) : Result := .next (opAlu .ADC (.reg .A) s)
/-- ADC A,n (R152). -/
def exec_adc_A_n (n : Byte) (s : State) : Result := .next (opAlu .ADC (.imm n) s)
/-- ADC A,IXH (R152). -/
def exec_adc_A_IXH (s : State) : Result := .next (opAlu .ADC (.half .IX .H) s)
/-- ADC A,IXL (R152). -/
def exec_adc_A_IXL (s : State) : Result := .next (opAlu .ADC (.half .IX .L) s)
/-- ADC A,(IX+d) (R152). -/
def exec_adc_A_mIXd (d : Int) (s : State) : Result := .next (opAlu .ADC (.memIdx .IX d) s)
/-- ADC A,IYH (R152). -/
def exec_adc_A_IYH (s : State) : Result := .next (opAlu .ADC (.half .IY .H) s)
/-- ADC A,IYL (R152). -/
def exec_adc_A_IYL (s : State) : Result := .next (opAlu .ADC (.half .IY .L) s)
/-- ADC A,(IY+d) (R152). -/
def exec_adc_A_mIYd (d : Int) (s : State) : Result := .next (opAlu .ADC (.memIdx .IY d) s)

/-! ### R153 -/

/-- SUB B (R153). -/
def exec_sub_B (s : State) : Result := .next (opAlu .SUB (.reg .B) s)
/-- SUB C (R153). -/
def exec_sub_C (s : State) : Result := .next (opAlu .SUB (.reg .C) s)
/-- SUB D (R153). -/
def exec_sub_D (s : State) : Result := .next (opAlu .SUB (.reg .D) s)
/-- SUB E (R153). -/
def exec_sub_E (s : State) : Result := .next (opAlu .SUB (.reg .E) s)
/-- SUB H (R153). -/
def exec_sub_H (s : State) : Result := .next (opAlu .SUB (.reg .H) s)
/-- SUB L (R153). -/
def exec_sub_L (s : State) : Result := .next (opAlu .SUB (.reg .L) s)
/-- SUB (HL) (R153). -/
def exec_sub_mHL (s : State) : Result := .next (opAlu .SUB .memHL s)
/-- SUB A (R153). -/
def exec_sub_A (s : State) : Result := .next (opAlu .SUB (.reg .A) s)
/-- SUB n (R153). -/
def exec_sub_n (n : Byte) (s : State) : Result := .next (opAlu .SUB (.imm n) s)
/-- SUB IXH (R153). -/
def exec_sub_IXH (s : State) : Result := .next (opAlu .SUB (.half .IX .H) s)
/-- SUB IXL (R153). -/
def exec_sub_IXL (s : State) : Result := .next (opAlu .SUB (.half .IX .L) s)
/-- SUB (IX+d) (R153). -/
def exec_sub_mIXd (d : Int) (s : State) : Result := .next (opAlu .SUB (.memIdx .IX d) s)
/-- SUB IYH (R153). -/
def exec_sub_IYH (s : State) : Result := .next (opAlu .SUB (.half .IY .H) s)
/-- SUB IYL (R153). -/
def exec_sub_IYL (s : State) : Result := .next (opAlu .SUB (.half .IY .L) s)
/-- SUB (IY+d) (R153). -/
def exec_sub_mIYd (d : Int) (s : State) : Result := .next (opAlu .SUB (.memIdx .IY d) s)

/-! ### R154 -/

/-- SBC A,B (R154). -/
def exec_sbc_A_B (s : State) : Result := .next (opAlu .SBC (.reg .B) s)
/-- SBC A,C (R154). -/
def exec_sbc_A_C (s : State) : Result := .next (opAlu .SBC (.reg .C) s)
/-- SBC A,D (R154). -/
def exec_sbc_A_D (s : State) : Result := .next (opAlu .SBC (.reg .D) s)
/-- SBC A,E (R154). -/
def exec_sbc_A_E (s : State) : Result := .next (opAlu .SBC (.reg .E) s)
/-- SBC A,H (R154). -/
def exec_sbc_A_H (s : State) : Result := .next (opAlu .SBC (.reg .H) s)
/-- SBC A,L (R154). -/
def exec_sbc_A_L (s : State) : Result := .next (opAlu .SBC (.reg .L) s)
/-- SBC A,(HL) (R154). -/
def exec_sbc_A_mHL (s : State) : Result := .next (opAlu .SBC .memHL s)
/-- SBC A,A (R154). -/
def exec_sbc_A_A (s : State) : Result := .next (opAlu .SBC (.reg .A) s)
/-- SBC A,n (R154). -/
def exec_sbc_A_n (n : Byte) (s : State) : Result := .next (opAlu .SBC (.imm n) s)
/-- SBC A,IXH (R154). -/
def exec_sbc_A_IXH (s : State) : Result := .next (opAlu .SBC (.half .IX .H) s)
/-- SBC A,IXL (R154). -/
def exec_sbc_A_IXL (s : State) : Result := .next (opAlu .SBC (.half .IX .L) s)
/-- SBC A,(IX+d) (R154). -/
def exec_sbc_A_mIXd (d : Int) (s : State) : Result := .next (opAlu .SBC (.memIdx .IX d) s)
/-- SBC A,IYH (R154). -/
def exec_sbc_A_IYH (s : State) : Result := .next (opAlu .SBC (.half .IY .H) s)
/-- SBC A,IYL (R154). -/
def exec_sbc_A_IYL (s : State) : Result := .next (opAlu .SBC (.half .IY .L) s)
/-- SBC A,(IY+d) (R154). -/
def exec_sbc_A_mIYd (d : Int) (s : State) : Result := .next (opAlu .SBC (.memIdx .IY d) s)

/-! ### R155 -/

/-- AND B (R155). -/
def exec_and_B (s : State) : Result := .next (opAlu .AND (.reg .B) s)
/-- AND C (R155). -/
def exec_and_C (s : State) : Result := .next (opAlu .AND (.reg .C) s)
/-- AND D (R155). -/
def exec_and_D (s : State) : Result := .next (opAlu .AND (.reg .D) s)
/-- AND E (R155). -/
def exec_and_E (s : State) : Result := .next (opAlu .AND (.reg .E) s)
/-- AND H (R155). -/
def exec_and_H (s : State) : Result := .next (opAlu .AND (.reg .H) s)
/-- AND L (R155). -/
def exec_and_L (s : State) : Result := .next (opAlu .AND (.reg .L) s)
/-- AND (HL) (R155). -/
def exec_and_mHL (s : State) : Result := .next (opAlu .AND .memHL s)
/-- AND A (R155). -/
def exec_and_A (s : State) : Result := .next (opAlu .AND (.reg .A) s)
/-- AND n (R155). -/
def exec_and_n (n : Byte) (s : State) : Result := .next (opAlu .AND (.imm n) s)
/-- AND IXH (R155). -/
def exec_and_IXH (s : State) : Result := .next (opAlu .AND (.half .IX .H) s)
/-- AND IXL (R155). -/
def exec_and_IXL (s : State) : Result := .next (opAlu .AND (.half .IX .L) s)
/-- AND (IX+d) (R155). -/
def exec_and_mIXd (d : Int) (s : State) : Result := .next (opAlu .AND (.memIdx .IX d) s)
/-- AND IYH (R155). -/
def exec_and_IYH (s : State) : Result := .next (opAlu .AND (.half .IY .H) s)
/-- AND IYL (R155). -/
def exec_and_IYL (s : State) : Result := .next (opAlu .AND (.half .IY .L) s)
/-- AND (IY+d) (R155). -/
def exec_and_mIYd (d : Int) (s : State) : Result := .next (opAlu .AND (.memIdx .IY d) s)

/-! ### R156 -/

/-- XOR B (R156). -/
def exec_xor_B (s : State) : Result := .next (opAlu .XOR (.reg .B) s)
/-- XOR C (R156). -/
def exec_xor_C (s : State) : Result := .next (opAlu .XOR (.reg .C) s)
/-- XOR D (R156). -/
def exec_xor_D (s : State) : Result := .next (opAlu .XOR (.reg .D) s)
/-- XOR E (R156). -/
def exec_xor_E (s : State) : Result := .next (opAlu .XOR (.reg .E) s)
/-- XOR H (R156). -/
def exec_xor_H (s : State) : Result := .next (opAlu .XOR (.reg .H) s)
/-- XOR L (R156). -/
def exec_xor_L (s : State) : Result := .next (opAlu .XOR (.reg .L) s)
/-- XOR (HL) (R156). -/
def exec_xor_mHL (s : State) : Result := .next (opAlu .XOR .memHL s)
/-- XOR A (R156). -/
def exec_xor_A (s : State) : Result := .next (opAlu .XOR (.reg .A) s)
/-- XOR n (R156). -/
def exec_xor_n (n : Byte) (s : State) : Result := .next (opAlu .XOR (.imm n) s)
/-- XOR IXH (R156). -/
def exec_xor_IXH (s : State) : Result := .next (opAlu .XOR (.half .IX .H) s)
/-- XOR IXL (R156). -/
def exec_xor_IXL (s : State) : Result := .next (opAlu .XOR (.half .IX .L) s)
/-- XOR (IX+d) (R156). -/
def exec_xor_mIXd (d : Int) (s : State) : Result := .next (opAlu .XOR (.memIdx .IX d) s)
/-- XOR IYH (R156). -/
def exec_xor_IYH (s : State) : Result := .next (opAlu .XOR (.half .IY .H) s)
/-- XOR IYL (R156). -/
def exec_xor_IYL (s : State) : Result := .next (opAlu .XOR (.half .IY .L) s)
/-- XOR (IY+d) (R156). -/
def exec_xor_mIYd (d : Int) (s : State) : Result := .next (opAlu .XOR (.memIdx .IY d) s)

/-! ### R157 -/

/-- OR B (R157). -/
def exec_or_B (s : State) : Result := .next (opAlu .OR (.reg .B) s)
/-- OR C (R157). -/
def exec_or_C (s : State) : Result := .next (opAlu .OR (.reg .C) s)
/-- OR D (R157). -/
def exec_or_D (s : State) : Result := .next (opAlu .OR (.reg .D) s)
/-- OR E (R157). -/
def exec_or_E (s : State) : Result := .next (opAlu .OR (.reg .E) s)
/-- OR H (R157). -/
def exec_or_H (s : State) : Result := .next (opAlu .OR (.reg .H) s)
/-- OR L (R157). -/
def exec_or_L (s : State) : Result := .next (opAlu .OR (.reg .L) s)
/-- OR (HL) (R157). -/
def exec_or_mHL (s : State) : Result := .next (opAlu .OR .memHL s)
/-- OR A (R157). -/
def exec_or_A (s : State) : Result := .next (opAlu .OR (.reg .A) s)
/-- OR n (R157). -/
def exec_or_n (n : Byte) (s : State) : Result := .next (opAlu .OR (.imm n) s)
/-- OR IXH (R157). -/
def exec_or_IXH (s : State) : Result := .next (opAlu .OR (.half .IX .H) s)
/-- OR IXL (R157). -/
def exec_or_IXL (s : State) : Result := .next (opAlu .OR (.half .IX .L) s)
/-- OR (IX+d) (R157). -/
def exec_or_mIXd (d : Int) (s : State) : Result := .next (opAlu .OR (.memIdx .IX d) s)
/-- OR IYH (R157). -/
def exec_or_IYH (s : State) : Result := .next (opAlu .OR (.half .IY .H) s)
/-- OR IYL (R157). -/
def exec_or_IYL (s : State) : Result := .next (opAlu .OR (.half .IY .L) s)
/-- OR (IY+d) (R157). -/
def exec_or_mIYd (d : Int) (s : State) : Result := .next (opAlu .OR (.memIdx .IY d) s)

/-! ### R158 -/

/-- CP B (R158). -/
def exec_cp_B (s : State) : Result := .next (opAlu .CP (.reg .B) s)
/-- CP C (R158). -/
def exec_cp_C (s : State) : Result := .next (opAlu .CP (.reg .C) s)
/-- CP D (R158). -/
def exec_cp_D (s : State) : Result := .next (opAlu .CP (.reg .D) s)
/-- CP E (R158). -/
def exec_cp_E (s : State) : Result := .next (opAlu .CP (.reg .E) s)
/-- CP H (R158). -/
def exec_cp_H (s : State) : Result := .next (opAlu .CP (.reg .H) s)
/-- CP L (R158). -/
def exec_cp_L (s : State) : Result := .next (opAlu .CP (.reg .L) s)
/-- CP (HL) (R158). -/
def exec_cp_mHL (s : State) : Result := .next (opAlu .CP .memHL s)
/-- CP A (R158). -/
def exec_cp_A (s : State) : Result := .next (opAlu .CP (.reg .A) s)
/-- CP n (R158). -/
def exec_cp_n (n : Byte) (s : State) : Result := .next (opAlu .CP (.imm n) s)
/-- CP IXH (R158). -/
def exec_cp_IXH (s : State) : Result := .next (opAlu .CP (.half .IX .H) s)
/-- CP IXL (R158). -/
def exec_cp_IXL (s : State) : Result := .next (opAlu .CP (.half .IX .L) s)
/-- CP (IX+d) (R158). -/
def exec_cp_mIXd (d : Int) (s : State) : Result := .next (opAlu .CP (.memIdx .IX d) s)
/-- CP IYH (R158). -/
def exec_cp_IYH (s : State) : Result := .next (opAlu .CP (.half .IY .H) s)
/-- CP IYL (R158). -/
def exec_cp_IYL (s : State) : Result := .next (opAlu .CP (.half .IY .L) s)
/-- CP (IY+d) (R158). -/
def exec_cp_mIYd (d : Int) (s : State) : Result := .next (opAlu .CP (.memIdx .IY d) s)

/-! ### R159 -/

/-- INC B (R159). -/
def exec_inc_B (s : State) : Result := .next (opInc8 (.reg .B) s)
/-- INC C (R159). -/
def exec_inc_C (s : State) : Result := .next (opInc8 (.reg .C) s)
/-- INC D (R159). -/
def exec_inc_D (s : State) : Result := .next (opInc8 (.reg .D) s)
/-- INC E (R159). -/
def exec_inc_E (s : State) : Result := .next (opInc8 (.reg .E) s)
/-- INC H (R159). -/
def exec_inc_H (s : State) : Result := .next (opInc8 (.reg .H) s)
/-- INC L (R159). -/
def exec_inc_L (s : State) : Result := .next (opInc8 (.reg .L) s)
/-- INC (HL) (R159). -/
def exec_inc_mHL (s : State) : Result := .next (opInc8 .memHL s)
/-- INC A (R159). -/
def exec_inc_A (s : State) : Result := .next (opInc8 (.reg .A) s)
/-- INC IXH (R159). -/
def exec_inc_IXH (s : State) : Result := .next (opInc8 (.half .IX .H) s)
/-- INC IXL (R159). -/
def exec_inc_IXL (s : State) : Result := .next (opInc8 (.half .IX .L) s)
/-- INC (IX+d) (R159). -/
def exec_inc_mIXd (d : Int) (s : State) : Result := .next (opInc8 (.memIdx .IX d) s)
/-- INC IYH (R159). -/
def exec_inc_IYH (s : State) : Result := .next (opInc8 (.half .IY .H) s)
/-- INC IYL (R159). -/
def exec_inc_IYL (s : State) : Result := .next (opInc8 (.half .IY .L) s)
/-- INC (IY+d) (R159). -/
def exec_inc_mIYd (d : Int) (s : State) : Result := .next (opInc8 (.memIdx .IY d) s)

/-! ### R160 -/

/-- DEC B (R160). -/
def exec_dec_B (s : State) : Result := .next (opDec8 (.reg .B) s)
/-- DEC C (R160). -/
def exec_dec_C (s : State) : Result := .next (opDec8 (.reg .C) s)
/-- DEC D (R160). -/
def exec_dec_D (s : State) : Result := .next (opDec8 (.reg .D) s)
/-- DEC E (R160). -/
def exec_dec_E (s : State) : Result := .next (opDec8 (.reg .E) s)
/-- DEC H (R160). -/
def exec_dec_H (s : State) : Result := .next (opDec8 (.reg .H) s)
/-- DEC L (R160). -/
def exec_dec_L (s : State) : Result := .next (opDec8 (.reg .L) s)
/-- DEC (HL) (R160). -/
def exec_dec_mHL (s : State) : Result := .next (opDec8 .memHL s)
/-- DEC A (R160). -/
def exec_dec_A (s : State) : Result := .next (opDec8 (.reg .A) s)
/-- DEC IXH (R160). -/
def exec_dec_IXH (s : State) : Result := .next (opDec8 (.half .IX .H) s)
/-- DEC IXL (R160). -/
def exec_dec_IXL (s : State) : Result := .next (opDec8 (.half .IX .L) s)
/-- DEC (IX+d) (R160). -/
def exec_dec_mIXd (d : Int) (s : State) : Result := .next (opDec8 (.memIdx .IX d) s)
/-- DEC IYH (R160). -/
def exec_dec_IYH (s : State) : Result := .next (opDec8 (.half .IY .H) s)
/-- DEC IYL (R160). -/
def exec_dec_IYL (s : State) : Result := .next (opDec8 (.half .IY .L) s)
/-- DEC (IY+d) (R160). -/
def exec_dec_mIYd (d : Int) (s : State) : Result := .next (opDec8 (.memIdx .IY d) s)

/-! ### R161 -/

/-- DAA (R161). -/
def exec_daa (s : State) : Result := .next (opAcc daa8 s)

/-! ### R162 -/

/-- CPL (R162). -/
def exec_cpl (s : State) : Result := .next (opAcc cpl8 s)

/-! ### R163 -/

/-- NEG (R163). -/
def exec_neg (s : State) : Result := .next (opAcc neg8 s)

/-! ### R164 -/

/-- CCF (R164). -/
def exec_ccf (s : State) : Result := .next (opCcf s)

/-! ### R165 -/

/-- SCF (R165). -/
def exec_scf (s : State) : Result := .next (opScf s)

end Sys2Proof.Machine
end

