-- ==== Sys2Proof/Machine/BitOps.lean ====
section
/-! DEFINITION. Bit test, set and reset (43_bit.md): the shared operations, then one meaning per instruction. -/

namespace Sys2Proof.Machine

/-- BIT b,m (R231). F5 and F3 come from the value in the register form, from the address's high byte in the (X+d) form, and
are free values in the (HL) form. -/
def opBit (b : Fin 8) (m : CbPlace) (s : State) : State :=
  let r := s.readPlace m.place
  match m with
  | .reg _ => { r.2 with F := bitFlags b r.1 (r.1.getLsbD 5) (r.1.getLsbD 3) s.F }
  | .memHL =>
    let k := r.2.draws
    { r.2 with F := bitFlags b r.1 (Config.freeF5 k) (Config.freeF3 k) s.F, draws := k + 1 }
  | .memIdx x d =>
    let ea := s.addr (.idx x d)
    { r.2 with F := bitFlags b r.1 (ea.getLsbD 13) (ea.getLsbD 11) s.F }

/-- The byte with bit b set (R232). -/
def setBit8 (b : Fin 8) (v : Byte) : Byte := v ||| ((1 : Byte) <<< b.val)

/-- The byte with bit b reset (R233). -/
def resetBit8 (b : Fin 8) (v : Byte) : Byte := v &&& ~~~((1 : Byte) <<< b.val)

/-- SET b,m (R232): no flag is written. -/
def opSet (b : Fin 8) (m : CbPlace) (s : State) : State := s.modify m.place (fun v f => (setBit8 b v, f))

/-- RES b,m (R233): no flag is written. -/
def opRes (b : Fin 8) (m : CbPlace) (s : State) : State := s.modify m.place (fun v f => (resetBit8 b v, f))

/-! ### R231 -/

/-- BIT 0,B (R231). -/
def exec_bit_0_B (s : State) : Result := .next (opBit 0 (.reg .B) s)
/-- BIT 0,C (R231). -/
def exec_bit_0_C (s : State) : Result := .next (opBit 0 (.reg .C) s)
/-- BIT 0,D (R231). -/
def exec_bit_0_D (s : State) : Result := .next (opBit 0 (.reg .D) s)
/-- BIT 0,E (R231). -/
def exec_bit_0_E (s : State) : Result := .next (opBit 0 (.reg .E) s)
/-- BIT 0,H (R231). -/
def exec_bit_0_H (s : State) : Result := .next (opBit 0 (.reg .H) s)
/-- BIT 0,L (R231). -/
def exec_bit_0_L (s : State) : Result := .next (opBit 0 (.reg .L) s)
/-- BIT 0,(HL) (R231). -/
def exec_bit_0_mHL (s : State) : Result := .next (opBit 0 .memHL s)
/-- BIT 0,A (R231). -/
def exec_bit_0_A (s : State) : Result := .next (opBit 0 (.reg .A) s)
/-- BIT 1,B (R231). -/
def exec_bit_1_B (s : State) : Result := .next (opBit 1 (.reg .B) s)
/-- BIT 1,C (R231). -/
def exec_bit_1_C (s : State) : Result := .next (opBit 1 (.reg .C) s)
/-- BIT 1,D (R231). -/
def exec_bit_1_D (s : State) : Result := .next (opBit 1 (.reg .D) s)
/-- BIT 1,E (R231). -/
def exec_bit_1_E (s : State) : Result := .next (opBit 1 (.reg .E) s)
/-- BIT 1,H (R231). -/
def exec_bit_1_H (s : State) : Result := .next (opBit 1 (.reg .H) s)
/-- BIT 1,L (R231). -/
def exec_bit_1_L (s : State) : Result := .next (opBit 1 (.reg .L) s)
/-- BIT 1,(HL) (R231). -/
def exec_bit_1_mHL (s : State) : Result := .next (opBit 1 .memHL s)
/-- BIT 1,A (R231). -/
def exec_bit_1_A (s : State) : Result := .next (opBit 1 (.reg .A) s)
/-- BIT 2,B (R231). -/
def exec_bit_2_B (s : State) : Result := .next (opBit 2 (.reg .B) s)
/-- BIT 2,C (R231). -/
def exec_bit_2_C (s : State) : Result := .next (opBit 2 (.reg .C) s)
/-- BIT 2,D (R231). -/
def exec_bit_2_D (s : State) : Result := .next (opBit 2 (.reg .D) s)
/-- BIT 2,E (R231). -/
def exec_bit_2_E (s : State) : Result := .next (opBit 2 (.reg .E) s)
/-- BIT 2,H (R231). -/
def exec_bit_2_H (s : State) : Result := .next (opBit 2 (.reg .H) s)
/-- BIT 2,L (R231). -/
def exec_bit_2_L (s : State) : Result := .next (opBit 2 (.reg .L) s)
/-- BIT 2,(HL) (R231). -/
def exec_bit_2_mHL (s : State) : Result := .next (opBit 2 .memHL s)
/-- BIT 2,A (R231). -/
def exec_bit_2_A (s : State) : Result := .next (opBit 2 (.reg .A) s)
/-- BIT 3,B (R231). -/
def exec_bit_3_B (s : State) : Result := .next (opBit 3 (.reg .B) s)
/-- BIT 3,C (R231). -/
def exec_bit_3_C (s : State) : Result := .next (opBit 3 (.reg .C) s)
/-- BIT 3,D (R231). -/
def exec_bit_3_D (s : State) : Result := .next (opBit 3 (.reg .D) s)
/-- BIT 3,E (R231). -/
def exec_bit_3_E (s : State) : Result := .next (opBit 3 (.reg .E) s)
/-- BIT 3,H (R231). -/
def exec_bit_3_H (s : State) : Result := .next (opBit 3 (.reg .H) s)
/-- BIT 3,L (R231). -/
def exec_bit_3_L (s : State) : Result := .next (opBit 3 (.reg .L) s)
/-- BIT 3,(HL) (R231). -/
def exec_bit_3_mHL (s : State) : Result := .next (opBit 3 .memHL s)
/-- BIT 3,A (R231). -/
def exec_bit_3_A (s : State) : Result := .next (opBit 3 (.reg .A) s)
/-- BIT 4,B (R231). -/
def exec_bit_4_B (s : State) : Result := .next (opBit 4 (.reg .B) s)
/-- BIT 4,C (R231). -/
def exec_bit_4_C (s : State) : Result := .next (opBit 4 (.reg .C) s)
/-- BIT 4,D (R231). -/
def exec_bit_4_D (s : State) : Result := .next (opBit 4 (.reg .D) s)
/-- BIT 4,E (R231). -/
def exec_bit_4_E (s : State) : Result := .next (opBit 4 (.reg .E) s)
/-- BIT 4,H (R231). -/
def exec_bit_4_H (s : State) : Result := .next (opBit 4 (.reg .H) s)
/-- BIT 4,L (R231). -/
def exec_bit_4_L (s : State) : Result := .next (opBit 4 (.reg .L) s)
/-- BIT 4,(HL) (R231). -/
def exec_bit_4_mHL (s : State) : Result := .next (opBit 4 .memHL s)
/-- BIT 4,A (R231). -/
def exec_bit_4_A (s : State) : Result := .next (opBit 4 (.reg .A) s)
/-- BIT 5,B (R231). -/
def exec_bit_5_B (s : State) : Result := .next (opBit 5 (.reg .B) s)
/-- BIT 5,C (R231). -/
def exec_bit_5_C (s : State) : Result := .next (opBit 5 (.reg .C) s)
/-- BIT 5,D (R231). -/
def exec_bit_5_D (s : State) : Result := .next (opBit 5 (.reg .D) s)
/-- BIT 5,E (R231). -/
def exec_bit_5_E (s : State) : Result := .next (opBit 5 (.reg .E) s)
/-- BIT 5,H (R231). -/
def exec_bit_5_H (s : State) : Result := .next (opBit 5 (.reg .H) s)
/-- BIT 5,L (R231). -/
def exec_bit_5_L (s : State) : Result := .next (opBit 5 (.reg .L) s)
/-- BIT 5,(HL) (R231). -/
def exec_bit_5_mHL (s : State) : Result := .next (opBit 5 .memHL s)
/-- BIT 5,A (R231). -/
def exec_bit_5_A (s : State) : Result := .next (opBit 5 (.reg .A) s)
/-- BIT 6,B (R231). -/
def exec_bit_6_B (s : State) : Result := .next (opBit 6 (.reg .B) s)
/-- BIT 6,C (R231). -/
def exec_bit_6_C (s : State) : Result := .next (opBit 6 (.reg .C) s)
/-- BIT 6,D (R231). -/
def exec_bit_6_D (s : State) : Result := .next (opBit 6 (.reg .D) s)
/-- BIT 6,E (R231). -/
def exec_bit_6_E (s : State) : Result := .next (opBit 6 (.reg .E) s)
/-- BIT 6,H (R231). -/
def exec_bit_6_H (s : State) : Result := .next (opBit 6 (.reg .H) s)
/-- BIT 6,L (R231). -/
def exec_bit_6_L (s : State) : Result := .next (opBit 6 (.reg .L) s)
/-- BIT 6,(HL) (R231). -/
def exec_bit_6_mHL (s : State) : Result := .next (opBit 6 .memHL s)
/-- BIT 6,A (R231). -/
def exec_bit_6_A (s : State) : Result := .next (opBit 6 (.reg .A) s)
/-- BIT 7,B (R231). -/
def exec_bit_7_B (s : State) : Result := .next (opBit 7 (.reg .B) s)
/-- BIT 7,C (R231). -/
def exec_bit_7_C (s : State) : Result := .next (opBit 7 (.reg .C) s)
/-- BIT 7,D (R231). -/
def exec_bit_7_D (s : State) : Result := .next (opBit 7 (.reg .D) s)
/-- BIT 7,E (R231). -/
def exec_bit_7_E (s : State) : Result := .next (opBit 7 (.reg .E) s)
/-- BIT 7,H (R231). -/
def exec_bit_7_H (s : State) : Result := .next (opBit 7 (.reg .H) s)
/-- BIT 7,L (R231). -/
def exec_bit_7_L (s : State) : Result := .next (opBit 7 (.reg .L) s)
/-- BIT 7,(HL) (R231). -/
def exec_bit_7_mHL (s : State) : Result := .next (opBit 7 .memHL s)
/-- BIT 7,A (R231). -/
def exec_bit_7_A (s : State) : Result := .next (opBit 7 (.reg .A) s)
/-- BIT 0,(IX+d) (R231). -/
def exec_bit_0_mIXd (d : Int) (s : State) : Result := .next (opBit 0 (.memIdx .IX d) s)
/-- BIT 1,(IX+d) (R231). -/
def exec_bit_1_mIXd (d : Int) (s : State) : Result := .next (opBit 1 (.memIdx .IX d) s)
/-- BIT 2,(IX+d) (R231). -/
def exec_bit_2_mIXd (d : Int) (s : State) : Result := .next (opBit 2 (.memIdx .IX d) s)
/-- BIT 3,(IX+d) (R231). -/
def exec_bit_3_mIXd (d : Int) (s : State) : Result := .next (opBit 3 (.memIdx .IX d) s)
/-- BIT 4,(IX+d) (R231). -/
def exec_bit_4_mIXd (d : Int) (s : State) : Result := .next (opBit 4 (.memIdx .IX d) s)
/-- BIT 5,(IX+d) (R231). -/
def exec_bit_5_mIXd (d : Int) (s : State) : Result := .next (opBit 5 (.memIdx .IX d) s)
/-- BIT 6,(IX+d) (R231). -/
def exec_bit_6_mIXd (d : Int) (s : State) : Result := .next (opBit 6 (.memIdx .IX d) s)
/-- BIT 7,(IX+d) (R231). -/
def exec_bit_7_mIXd (d : Int) (s : State) : Result := .next (opBit 7 (.memIdx .IX d) s)
/-- BIT 0,(IY+d) (R231). -/
def exec_bit_0_mIYd (d : Int) (s : State) : Result := .next (opBit 0 (.memIdx .IY d) s)
/-- BIT 1,(IY+d) (R231). -/
def exec_bit_1_mIYd (d : Int) (s : State) : Result := .next (opBit 1 (.memIdx .IY d) s)
/-- BIT 2,(IY+d) (R231). -/
def exec_bit_2_mIYd (d : Int) (s : State) : Result := .next (opBit 2 (.memIdx .IY d) s)
/-- BIT 3,(IY+d) (R231). -/
def exec_bit_3_mIYd (d : Int) (s : State) : Result := .next (opBit 3 (.memIdx .IY d) s)
/-- BIT 4,(IY+d) (R231). -/
def exec_bit_4_mIYd (d : Int) (s : State) : Result := .next (opBit 4 (.memIdx .IY d) s)
/-- BIT 5,(IY+d) (R231). -/
def exec_bit_5_mIYd (d : Int) (s : State) : Result := .next (opBit 5 (.memIdx .IY d) s)
/-- BIT 6,(IY+d) (R231). -/
def exec_bit_6_mIYd (d : Int) (s : State) : Result := .next (opBit 6 (.memIdx .IY d) s)
/-- BIT 7,(IY+d) (R231). -/
def exec_bit_7_mIYd (d : Int) (s : State) : Result := .next (opBit 7 (.memIdx .IY d) s)

/-! ### R232 -/

/-- SET 0,B (R232). -/
def exec_set_0_B (s : State) : Result := .next (opSet 0 (.reg .B) s)
/-- SET 0,C (R232). -/
def exec_set_0_C (s : State) : Result := .next (opSet 0 (.reg .C) s)
/-- SET 0,D (R232). -/
def exec_set_0_D (s : State) : Result := .next (opSet 0 (.reg .D) s)
/-- SET 0,E (R232). -/
def exec_set_0_E (s : State) : Result := .next (opSet 0 (.reg .E) s)
/-- SET 0,H (R232). -/
def exec_set_0_H (s : State) : Result := .next (opSet 0 (.reg .H) s)
/-- SET 0,L (R232). -/
def exec_set_0_L (s : State) : Result := .next (opSet 0 (.reg .L) s)
/-- SET 0,(HL) (R232). -/
def exec_set_0_mHL (s : State) : Result := .next (opSet 0 .memHL s)
/-- SET 0,A (R232). -/
def exec_set_0_A (s : State) : Result := .next (opSet 0 (.reg .A) s)
/-- SET 1,B (R232). -/
def exec_set_1_B (s : State) : Result := .next (opSet 1 (.reg .B) s)
/-- SET 1,C (R232). -/
def exec_set_1_C (s : State) : Result := .next (opSet 1 (.reg .C) s)
/-- SET 1,D (R232). -/
def exec_set_1_D (s : State) : Result := .next (opSet 1 (.reg .D) s)
/-- SET 1,E (R232). -/
def exec_set_1_E (s : State) : Result := .next (opSet 1 (.reg .E) s)
/-- SET 1,H (R232). -/
def exec_set_1_H (s : State) : Result := .next (opSet 1 (.reg .H) s)
/-- SET 1,L (R232). -/
def exec_set_1_L (s : State) : Result := .next (opSet 1 (.reg .L) s)
/-- SET 1,(HL) (R232). -/
def exec_set_1_mHL (s : State) : Result := .next (opSet 1 .memHL s)
/-- SET 1,A (R232). -/
def exec_set_1_A (s : State) : Result := .next (opSet 1 (.reg .A) s)
/-- SET 2,B (R232). -/
def exec_set_2_B (s : State) : Result := .next (opSet 2 (.reg .B) s)
/-- SET 2,C (R232). -/
def exec_set_2_C (s : State) : Result := .next (opSet 2 (.reg .C) s)
/-- SET 2,D (R232). -/
def exec_set_2_D (s : State) : Result := .next (opSet 2 (.reg .D) s)
/-- SET 2,E (R232). -/
def exec_set_2_E (s : State) : Result := .next (opSet 2 (.reg .E) s)
/-- SET 2,H (R232). -/
def exec_set_2_H (s : State) : Result := .next (opSet 2 (.reg .H) s)
/-- SET 2,L (R232). -/
def exec_set_2_L (s : State) : Result := .next (opSet 2 (.reg .L) s)
/-- SET 2,(HL) (R232). -/
def exec_set_2_mHL (s : State) : Result := .next (opSet 2 .memHL s)
/-- SET 2,A (R232). -/
def exec_set_2_A (s : State) : Result := .next (opSet 2 (.reg .A) s)
/-- SET 3,B (R232). -/
def exec_set_3_B (s : State) : Result := .next (opSet 3 (.reg .B) s)
/-- SET 3,C (R232). -/
def exec_set_3_C (s : State) : Result := .next (opSet 3 (.reg .C) s)
/-- SET 3,D (R232). -/
def exec_set_3_D (s : State) : Result := .next (opSet 3 (.reg .D) s)
/-- SET 3,E (R232). -/
def exec_set_3_E (s : State) : Result := .next (opSet 3 (.reg .E) s)
/-- SET 3,H (R232). -/
def exec_set_3_H (s : State) : Result := .next (opSet 3 (.reg .H) s)
/-- SET 3,L (R232). -/
def exec_set_3_L (s : State) : Result := .next (opSet 3 (.reg .L) s)
/-- SET 3,(HL) (R232). -/
def exec_set_3_mHL (s : State) : Result := .next (opSet 3 .memHL s)
/-- SET 3,A (R232). -/
def exec_set_3_A (s : State) : Result := .next (opSet 3 (.reg .A) s)
/-- SET 4,B (R232). -/
def exec_set_4_B (s : State) : Result := .next (opSet 4 (.reg .B) s)
/-- SET 4,C (R232). -/
def exec_set_4_C (s : State) : Result := .next (opSet 4 (.reg .C) s)
/-- SET 4,D (R232). -/
def exec_set_4_D (s : State) : Result := .next (opSet 4 (.reg .D) s)
/-- SET 4,E (R232). -/
def exec_set_4_E (s : State) : Result := .next (opSet 4 (.reg .E) s)
/-- SET 4,H (R232). -/
def exec_set_4_H (s : State) : Result := .next (opSet 4 (.reg .H) s)
/-- SET 4,L (R232). -/
def exec_set_4_L (s : State) : Result := .next (opSet 4 (.reg .L) s)
/-- SET 4,(HL) (R232). -/
def exec_set_4_mHL (s : State) : Result := .next (opSet 4 .memHL s)
/-- SET 4,A (R232). -/
def exec_set_4_A (s : State) : Result := .next (opSet 4 (.reg .A) s)
/-- SET 5,B (R232). -/
def exec_set_5_B (s : State) : Result := .next (opSet 5 (.reg .B) s)
/-- SET 5,C (R232). -/
def exec_set_5_C (s : State) : Result := .next (opSet 5 (.reg .C) s)
/-- SET 5,D (R232). -/
def exec_set_5_D (s : State) : Result := .next (opSet 5 (.reg .D) s)
/-- SET 5,E (R232). -/
def exec_set_5_E (s : State) : Result := .next (opSet 5 (.reg .E) s)
/-- SET 5,H (R232). -/
def exec_set_5_H (s : State) : Result := .next (opSet 5 (.reg .H) s)
/-- SET 5,L (R232). -/
def exec_set_5_L (s : State) : Result := .next (opSet 5 (.reg .L) s)
/-- SET 5,(HL) (R232). -/
def exec_set_5_mHL (s : State) : Result := .next (opSet 5 .memHL s)
/-- SET 5,A (R232). -/
def exec_set_5_A (s : State) : Result := .next (opSet 5 (.reg .A) s)
/-- SET 6,B (R232). -/
def exec_set_6_B (s : State) : Result := .next (opSet 6 (.reg .B) s)
/-- SET 6,C (R232). -/
def exec_set_6_C (s : State) : Result := .next (opSet 6 (.reg .C) s)
/-- SET 6,D (R232). -/
def exec_set_6_D (s : State) : Result := .next (opSet 6 (.reg .D) s)
/-- SET 6,E (R232). -/
def exec_set_6_E (s : State) : Result := .next (opSet 6 (.reg .E) s)
/-- SET 6,H (R232). -/
def exec_set_6_H (s : State) : Result := .next (opSet 6 (.reg .H) s)
/-- SET 6,L (R232). -/
def exec_set_6_L (s : State) : Result := .next (opSet 6 (.reg .L) s)
/-- SET 6,(HL) (R232). -/
def exec_set_6_mHL (s : State) : Result := .next (opSet 6 .memHL s)
/-- SET 6,A (R232). -/
def exec_set_6_A (s : State) : Result := .next (opSet 6 (.reg .A) s)
/-- SET 7,B (R232). -/
def exec_set_7_B (s : State) : Result := .next (opSet 7 (.reg .B) s)
/-- SET 7,C (R232). -/
def exec_set_7_C (s : State) : Result := .next (opSet 7 (.reg .C) s)
/-- SET 7,D (R232). -/
def exec_set_7_D (s : State) : Result := .next (opSet 7 (.reg .D) s)
/-- SET 7,E (R232). -/
def exec_set_7_E (s : State) : Result := .next (opSet 7 (.reg .E) s)
/-- SET 7,H (R232). -/
def exec_set_7_H (s : State) : Result := .next (opSet 7 (.reg .H) s)
/-- SET 7,L (R232). -/
def exec_set_7_L (s : State) : Result := .next (opSet 7 (.reg .L) s)
/-- SET 7,(HL) (R232). -/
def exec_set_7_mHL (s : State) : Result := .next (opSet 7 .memHL s)
/-- SET 7,A (R232). -/
def exec_set_7_A (s : State) : Result := .next (opSet 7 (.reg .A) s)
/-- SET 0,(IX+d) (R232). -/
def exec_set_0_mIXd (d : Int) (s : State) : Result := .next (opSet 0 (.memIdx .IX d) s)
/-- SET 1,(IX+d) (R232). -/
def exec_set_1_mIXd (d : Int) (s : State) : Result := .next (opSet 1 (.memIdx .IX d) s)
/-- SET 2,(IX+d) (R232). -/
def exec_set_2_mIXd (d : Int) (s : State) : Result := .next (opSet 2 (.memIdx .IX d) s)
/-- SET 3,(IX+d) (R232). -/
def exec_set_3_mIXd (d : Int) (s : State) : Result := .next (opSet 3 (.memIdx .IX d) s)
/-- SET 4,(IX+d) (R232). -/
def exec_set_4_mIXd (d : Int) (s : State) : Result := .next (opSet 4 (.memIdx .IX d) s)
/-- SET 5,(IX+d) (R232). -/
def exec_set_5_mIXd (d : Int) (s : State) : Result := .next (opSet 5 (.memIdx .IX d) s)
/-- SET 6,(IX+d) (R232). -/
def exec_set_6_mIXd (d : Int) (s : State) : Result := .next (opSet 6 (.memIdx .IX d) s)
/-- SET 7,(IX+d) (R232). -/
def exec_set_7_mIXd (d : Int) (s : State) : Result := .next (opSet 7 (.memIdx .IX d) s)
/-- SET 0,(IY+d) (R232). -/
def exec_set_0_mIYd (d : Int) (s : State) : Result := .next (opSet 0 (.memIdx .IY d) s)
/-- SET 1,(IY+d) (R232). -/
def exec_set_1_mIYd (d : Int) (s : State) : Result := .next (opSet 1 (.memIdx .IY d) s)
/-- SET 2,(IY+d) (R232). -/
def exec_set_2_mIYd (d : Int) (s : State) : Result := .next (opSet 2 (.memIdx .IY d) s)
/-- SET 3,(IY+d) (R232). -/
def exec_set_3_mIYd (d : Int) (s : State) : Result := .next (opSet 3 (.memIdx .IY d) s)
/-- SET 4,(IY+d) (R232). -/
def exec_set_4_mIYd (d : Int) (s : State) : Result := .next (opSet 4 (.memIdx .IY d) s)
/-- SET 5,(IY+d) (R232). -/
def exec_set_5_mIYd (d : Int) (s : State) : Result := .next (opSet 5 (.memIdx .IY d) s)
/-- SET 6,(IY+d) (R232). -/
def exec_set_6_mIYd (d : Int) (s : State) : Result := .next (opSet 6 (.memIdx .IY d) s)
/-- SET 7,(IY+d) (R232). -/
def exec_set_7_mIYd (d : Int) (s : State) : Result := .next (opSet 7 (.memIdx .IY d) s)

/-! ### R233 -/

/-- RES 0,B (R233). -/
def exec_res_0_B (s : State) : Result := .next (opRes 0 (.reg .B) s)
/-- RES 0,C (R233). -/
def exec_res_0_C (s : State) : Result := .next (opRes 0 (.reg .C) s)
/-- RES 0,D (R233). -/
def exec_res_0_D (s : State) : Result := .next (opRes 0 (.reg .D) s)
/-- RES 0,E (R233). -/
def exec_res_0_E (s : State) : Result := .next (opRes 0 (.reg .E) s)
/-- RES 0,H (R233). -/
def exec_res_0_H (s : State) : Result := .next (opRes 0 (.reg .H) s)
/-- RES 0,L (R233). -/
def exec_res_0_L (s : State) : Result := .next (opRes 0 (.reg .L) s)
/-- RES 0,(HL) (R233). -/
def exec_res_0_mHL (s : State) : Result := .next (opRes 0 .memHL s)
/-- RES 0,A (R233). -/
def exec_res_0_A (s : State) : Result := .next (opRes 0 (.reg .A) s)
/-- RES 1,B (R233). -/
def exec_res_1_B (s : State) : Result := .next (opRes 1 (.reg .B) s)
/-- RES 1,C (R233). -/
def exec_res_1_C (s : State) : Result := .next (opRes 1 (.reg .C) s)
/-- RES 1,D (R233). -/
def exec_res_1_D (s : State) : Result := .next (opRes 1 (.reg .D) s)
/-- RES 1,E (R233). -/
def exec_res_1_E (s : State) : Result := .next (opRes 1 (.reg .E) s)
/-- RES 1,H (R233). -/
def exec_res_1_H (s : State) : Result := .next (opRes 1 (.reg .H) s)
/-- RES 1,L (R233). -/
def exec_res_1_L (s : State) : Result := .next (opRes 1 (.reg .L) s)
/-- RES 1,(HL) (R233). -/
def exec_res_1_mHL (s : State) : Result := .next (opRes 1 .memHL s)
/-- RES 1,A (R233). -/
def exec_res_1_A (s : State) : Result := .next (opRes 1 (.reg .A) s)
/-- RES 2,B (R233). -/
def exec_res_2_B (s : State) : Result := .next (opRes 2 (.reg .B) s)
/-- RES 2,C (R233). -/
def exec_res_2_C (s : State) : Result := .next (opRes 2 (.reg .C) s)
/-- RES 2,D (R233). -/
def exec_res_2_D (s : State) : Result := .next (opRes 2 (.reg .D) s)
/-- RES 2,E (R233). -/
def exec_res_2_E (s : State) : Result := .next (opRes 2 (.reg .E) s)
/-- RES 2,H (R233). -/
def exec_res_2_H (s : State) : Result := .next (opRes 2 (.reg .H) s)
/-- RES 2,L (R233). -/
def exec_res_2_L (s : State) : Result := .next (opRes 2 (.reg .L) s)
/-- RES 2,(HL) (R233). -/
def exec_res_2_mHL (s : State) : Result := .next (opRes 2 .memHL s)
/-- RES 2,A (R233). -/
def exec_res_2_A (s : State) : Result := .next (opRes 2 (.reg .A) s)
/-- RES 3,B (R233). -/
def exec_res_3_B (s : State) : Result := .next (opRes 3 (.reg .B) s)
/-- RES 3,C (R233). -/
def exec_res_3_C (s : State) : Result := .next (opRes 3 (.reg .C) s)
/-- RES 3,D (R233). -/
def exec_res_3_D (s : State) : Result := .next (opRes 3 (.reg .D) s)
/-- RES 3,E (R233). -/
def exec_res_3_E (s : State) : Result := .next (opRes 3 (.reg .E) s)
/-- RES 3,H (R233). -/
def exec_res_3_H (s : State) : Result := .next (opRes 3 (.reg .H) s)
/-- RES 3,L (R233). -/
def exec_res_3_L (s : State) : Result := .next (opRes 3 (.reg .L) s)
/-- RES 3,(HL) (R233). -/
def exec_res_3_mHL (s : State) : Result := .next (opRes 3 .memHL s)
/-- RES 3,A (R233). -/
def exec_res_3_A (s : State) : Result := .next (opRes 3 (.reg .A) s)
/-- RES 4,B (R233). -/
def exec_res_4_B (s : State) : Result := .next (opRes 4 (.reg .B) s)
/-- RES 4,C (R233). -/
def exec_res_4_C (s : State) : Result := .next (opRes 4 (.reg .C) s)
/-- RES 4,D (R233). -/
def exec_res_4_D (s : State) : Result := .next (opRes 4 (.reg .D) s)
/-- RES 4,E (R233). -/
def exec_res_4_E (s : State) : Result := .next (opRes 4 (.reg .E) s)
/-- RES 4,H (R233). -/
def exec_res_4_H (s : State) : Result := .next (opRes 4 (.reg .H) s)
/-- RES 4,L (R233). -/
def exec_res_4_L (s : State) : Result := .next (opRes 4 (.reg .L) s)
/-- RES 4,(HL) (R233). -/
def exec_res_4_mHL (s : State) : Result := .next (opRes 4 .memHL s)
/-- RES 4,A (R233). -/
def exec_res_4_A (s : State) : Result := .next (opRes 4 (.reg .A) s)
/-- RES 5,B (R233). -/
def exec_res_5_B (s : State) : Result := .next (opRes 5 (.reg .B) s)
/-- RES 5,C (R233). -/
def exec_res_5_C (s : State) : Result := .next (opRes 5 (.reg .C) s)
/-- RES 5,D (R233). -/
def exec_res_5_D (s : State) : Result := .next (opRes 5 (.reg .D) s)
/-- RES 5,E (R233). -/
def exec_res_5_E (s : State) : Result := .next (opRes 5 (.reg .E) s)
/-- RES 5,H (R233). -/
def exec_res_5_H (s : State) : Result := .next (opRes 5 (.reg .H) s)
/-- RES 5,L (R233). -/
def exec_res_5_L (s : State) : Result := .next (opRes 5 (.reg .L) s)
/-- RES 5,(HL) (R233). -/
def exec_res_5_mHL (s : State) : Result := .next (opRes 5 .memHL s)
/-- RES 5,A (R233). -/
def exec_res_5_A (s : State) : Result := .next (opRes 5 (.reg .A) s)
/-- RES 6,B (R233). -/
def exec_res_6_B (s : State) : Result := .next (opRes 6 (.reg .B) s)
/-- RES 6,C (R233). -/
def exec_res_6_C (s : State) : Result := .next (opRes 6 (.reg .C) s)
/-- RES 6,D (R233). -/
def exec_res_6_D (s : State) : Result := .next (opRes 6 (.reg .D) s)
/-- RES 6,E (R233). -/
def exec_res_6_E (s : State) : Result := .next (opRes 6 (.reg .E) s)
/-- RES 6,H (R233). -/
def exec_res_6_H (s : State) : Result := .next (opRes 6 (.reg .H) s)
/-- RES 6,L (R233). -/
def exec_res_6_L (s : State) : Result := .next (opRes 6 (.reg .L) s)
/-- RES 6,(HL) (R233). -/
def exec_res_6_mHL (s : State) : Result := .next (opRes 6 .memHL s)
/-- RES 6,A (R233). -/
def exec_res_6_A (s : State) : Result := .next (opRes 6 (.reg .A) s)
/-- RES 7,B (R233). -/
def exec_res_7_B (s : State) : Result := .next (opRes 7 (.reg .B) s)
/-- RES 7,C (R233). -/
def exec_res_7_C (s : State) : Result := .next (opRes 7 (.reg .C) s)
/-- RES 7,D (R233). -/
def exec_res_7_D (s : State) : Result := .next (opRes 7 (.reg .D) s)
/-- RES 7,E (R233). -/
def exec_res_7_E (s : State) : Result := .next (opRes 7 (.reg .E) s)
/-- RES 7,H (R233). -/
def exec_res_7_H (s : State) : Result := .next (opRes 7 (.reg .H) s)
/-- RES 7,L (R233). -/
def exec_res_7_L (s : State) : Result := .next (opRes 7 (.reg .L) s)
/-- RES 7,(HL) (R233). -/
def exec_res_7_mHL (s : State) : Result := .next (opRes 7 .memHL s)
/-- RES 7,A (R233). -/
def exec_res_7_A (s : State) : Result := .next (opRes 7 (.reg .A) s)
/-- RES 0,(IX+d) (R233). -/
def exec_res_0_mIXd (d : Int) (s : State) : Result := .next (opRes 0 (.memIdx .IX d) s)
/-- RES 1,(IX+d) (R233). -/
def exec_res_1_mIXd (d : Int) (s : State) : Result := .next (opRes 1 (.memIdx .IX d) s)
/-- RES 2,(IX+d) (R233). -/
def exec_res_2_mIXd (d : Int) (s : State) : Result := .next (opRes 2 (.memIdx .IX d) s)
/-- RES 3,(IX+d) (R233). -/
def exec_res_3_mIXd (d : Int) (s : State) : Result := .next (opRes 3 (.memIdx .IX d) s)
/-- RES 4,(IX+d) (R233). -/
def exec_res_4_mIXd (d : Int) (s : State) : Result := .next (opRes 4 (.memIdx .IX d) s)
/-- RES 5,(IX+d) (R233). -/
def exec_res_5_mIXd (d : Int) (s : State) : Result := .next (opRes 5 (.memIdx .IX d) s)
/-- RES 6,(IX+d) (R233). -/
def exec_res_6_mIXd (d : Int) (s : State) : Result := .next (opRes 6 (.memIdx .IX d) s)
/-- RES 7,(IX+d) (R233). -/
def exec_res_7_mIXd (d : Int) (s : State) : Result := .next (opRes 7 (.memIdx .IX d) s)
/-- RES 0,(IY+d) (R233). -/
def exec_res_0_mIYd (d : Int) (s : State) : Result := .next (opRes 0 (.memIdx .IY d) s)
/-- RES 1,(IY+d) (R233). -/
def exec_res_1_mIYd (d : Int) (s : State) : Result := .next (opRes 1 (.memIdx .IY d) s)
/-- RES 2,(IY+d) (R233). -/
def exec_res_2_mIYd (d : Int) (s : State) : Result := .next (opRes 2 (.memIdx .IY d) s)
/-- RES 3,(IY+d) (R233). -/
def exec_res_3_mIYd (d : Int) (s : State) : Result := .next (opRes 3 (.memIdx .IY d) s)
/-- RES 4,(IY+d) (R233). -/
def exec_res_4_mIYd (d : Int) (s : State) : Result := .next (opRes 4 (.memIdx .IY d) s)
/-- RES 5,(IY+d) (R233). -/
def exec_res_5_mIYd (d : Int) (s : State) : Result := .next (opRes 5 (.memIdx .IY d) s)
/-- RES 6,(IY+d) (R233). -/
def exec_res_6_mIYd (d : Int) (s : State) : Result := .next (opRes 6 (.memIdx .IY d) s)
/-- RES 7,(IY+d) (R233). -/
def exec_res_7_mIYd (d : Int) (s : State) : Result := .next (opRes 7 (.memIdx .IY d) s)

end Sys2Proof.Machine
end

