-- ==== Sys2Proof/Machine/Block.lean ====
section
/-! DEFINITION. Block transfer, compare and I/O (44_block.md): the shared operations, then one meaning per instruction. -/

namespace Sys2Proof.Machine

/-- What a pointer of the direction is changed by. -/
def dirWord (dir : BlockDir) : Word :=
  match dir with
  | .up => 1
  | .down => 0xFFFF

/-- What register C is changed by in the sum `k` of INI and IND (R260). -/
def dirByte (dir : BlockDir) : Byte :=
  match dir with
  | .up => 1
  | .down => 0xFF

/-- LDI and LDD (R251, R252). -/
def opBlockLd (dir : BlockDir) (s : State) : State :=
  let v := s.memRead (s.get16 .HL)
  let s := v.2.memWrite (s.get16 .DE) v.1
  let s := s.set16 .HL (s.get16 .HL + dirWord dir)
  let s := s.set16 .DE (s.get16 .DE + dirWord dir)
  let s := s.set16 .BC (s.get16 .BC - 1)
  { s with F := blockLdFlags v.1 s.A (s.get16 .BC) s.F }

/-- CPI and CPD (R256, R257). -/
def opBlockCp (dir : BlockDir) (s : State) : State :=
  let v := s.memRead (s.get16 .HL)
  let s := v.2
  let s := s.set16 .HL (s.get16 .HL + dirWord dir)
  let s := s.set16 .BC (s.get16 .BC - 1)
  { s with F := blockCpFlags s.A v.1 (s.get16 .BC) s.F }

/-- INI and IND (R261, R262): the port is BC with B before its decrement. -/
def opBlockIn (dir : BlockDir) (s : State) : State :=
  let v := s.ioRead (s.get16 .BC)
  let s := v.2.memWrite (s.get16 .HL) v.1
  let s := s.set8 .B (s.B - 1)
  let s := s.set16 .HL (s.get16 .HL + dirWord dir)
  { s with F := blockIoFlags v.1 s.B (v.1.toNat + (s.C + dirByte dir).toNat) s.F }

/-- OUTI and OUTD (R265, R266): the port is BC with B after its decrement; L is taken after the pointer's update. -/
def opBlockOut (dir : BlockDir) (s : State) : State :=
  let v := s.memRead (s.get16 .HL)
  let s := v.2.set8 .B (s.B - 1)
  let s := s.ioWrite (s.get16 .BC) v.1
  let s := s.set16 .HL (s.get16 .HL + dirWord dir)
  { s with F := blockIoFlags v.1 s.B (v.1.toNat + s.L.toNat) s.F }

/-- `repeat_tail(cond)` (R250): PC goes back to the instruction's own first byte. -/
def repeatTail (cond : Bool) (s : State) : State := if cond then { s with PC := s.PC - 2 } else s

/-- LDIR and LDDR (R253, R254): one element, repeated while BC is not 0. -/
def opBlockLdRepeat (dir : BlockDir) (s : State) : State :=
  let s := opBlockLd dir s
  repeatTail (decide (s.get16 .BC ≠ 0)) s

/-- CPIR and CPDR (R258, R259): one element, repeated while BC is not 0 and nothing matched. -/
def opBlockCpRepeat (dir : BlockDir) (s : State) : State :=
  let s := opBlockCp dir s
  repeatTail (decide (s.get16 .BC ≠ 0) && !s.F.Z) s

/-- INIR and INDR (R263, R264): one element, repeated while B is not 0. -/
def opBlockInRepeat (dir : BlockDir) (s : State) : State :=
  let s := opBlockIn dir s
  repeatTail (decide (s.B ≠ 0)) s

/-- OTIR and OTDR (R267, R268): one element, repeated while B is not 0. -/
def opBlockOutRepeat (dir : BlockDir) (s : State) : State :=
  let s := opBlockOut dir s
  repeatTail (decide (s.B ≠ 0)) s

/-! ### R251 -/

/-- LDI (R251). -/
def exec_ldi (s : State) : Result := .next (opBlockLd .up s)

/-! ### R252 -/

/-- LDD (R252). -/
def exec_ldd (s : State) : Result := .next (opBlockLd .down s)

/-! ### R253 -/

/-- LDIR (R253). -/
def exec_ldir (s : State) : Result := .next (opBlockLdRepeat .up s)

/-! ### R254 -/

/-- LDDR (R254). -/
def exec_lddr (s : State) : Result := .next (opBlockLdRepeat .down s)

/-! ### R256 -/

/-- CPI (R256). -/
def exec_cpi (s : State) : Result := .next (opBlockCp .up s)

/-! ### R257 -/

/-- CPD (R257). -/
def exec_cpd (s : State) : Result := .next (opBlockCp .down s)

/-! ### R258 -/

/-- CPIR (R258). -/
def exec_cpir (s : State) : Result := .next (opBlockCpRepeat .up s)

/-! ### R259 -/

/-- CPDR (R259). -/
def exec_cpdr (s : State) : Result := .next (opBlockCpRepeat .down s)

/-! ### R261 -/

/-- INI (R261). -/
def exec_ini (s : State) : Result := .next (opBlockIn .up s)

/-! ### R262 -/

/-- IND (R262). -/
def exec_ind (s : State) : Result := .next (opBlockIn .down s)

/-! ### R263 -/

/-- INIR (R263). -/
def exec_inir (s : State) : Result := .next (opBlockInRepeat .up s)

/-! ### R264 -/

/-- INDR (R264). -/
def exec_indr (s : State) : Result := .next (opBlockInRepeat .down s)

/-! ### R265 -/

/-- OUTI (R265). -/
def exec_outi (s : State) : Result := .next (opBlockOut .up s)

/-! ### R266 -/

/-- OUTD (R266). -/
def exec_outd (s : State) : Result := .next (opBlockOut .down s)

/-! ### R267 -/

/-- OTIR (R267). -/
def exec_otir (s : State) : Result := .next (opBlockOutRepeat .up s)

/-! ### R268 -/

/-- OTDR (R268). -/
def exec_otdr (s : State) : Result := .next (opBlockOutRepeat .down s)

end Sys2Proof.Machine
end

