-- ==== Sys2Proof/Machine/ControlFlow.lean ====
section
/-! DEFINITION. Jumps, calls and returns (46_control_flow.md). PC holds PCn when a meaning starts (R93): the shared operations, then one meaning per instruction. -/

namespace Sys2Proof.Machine

/-- PC written (R331, R335). -/
def opJump (target : Word) (s : State) : State := { s with PC := target }

/-- A relative jump counts from PCn (R333). -/
def opJumpRelative (e : Int) (s : State) : State := { s with PC := s.PC + BitVec.ofInt 16 e }

/-- An operation that happens only where a condition holds (R330, R332, R334, R338, R340). -/
def opIf (c : Cond) (f : State → State) (s : State) : State := if condition c s.F then f s else s

/-- DJNZ (R336): B is decremented, no flag is written, and the jump is taken unless B became 0. -/
def opDjnz (e : Int) (s : State) : State :=
  let s := s.set8 .B (s.B - 1)
  if s.B = 0 then s else opJumpRelative e s

/-- CALL (R337) and RST (R343): PCn is pushed and PC takes the target. -/
def opCall (target : Word) (s : State) : State := opJump target (s.push16 s.PC)

/-- The target of RST (R343): y × 8. -/
def rstTarget (y : Fin 8) : Word := BitVec.ofNat 16 (y.val * 8)

/-! ### R331 -/

/-- JP nn (R331). -/
def exec_jp_nn (nn : Word) (s : State) : Result := .next (opJump nn s)

/-! ### R332 -/

/-- JP NZ,nn (R332). -/
def exec_jp_NZ_nn (nn : Word) (s : State) : Result := .next (opIf .NZ (opJump nn) s)
/-- JP Z,nn (R332). -/
def exec_jp_Z_nn (nn : Word) (s : State) : Result := .next (opIf .Z (opJump nn) s)
/-- JP NC,nn (R332). -/
def exec_jp_NC_nn (nn : Word) (s : State) : Result := .next (opIf .NC (opJump nn) s)
/-- JP C,nn (R332). -/
def exec_jp_C_nn (nn : Word) (s : State) : Result := .next (opIf .C (opJump nn) s)
/-- JP PO,nn (R332). -/
def exec_jp_PO_nn (nn : Word) (s : State) : Result := .next (opIf .PO (opJump nn) s)
/-- JP PE,nn (R332). -/
def exec_jp_PE_nn (nn : Word) (s : State) : Result := .next (opIf .PE (opJump nn) s)
/-- JP P,nn (R332). -/
def exec_jp_P_nn (nn : Word) (s : State) : Result := .next (opIf .P (opJump nn) s)
/-- JP M,nn (R332). -/
def exec_jp_M_nn (nn : Word) (s : State) : Result := .next (opIf .M (opJump nn) s)

/-! ### R333 -/

/-- JR e (R333). -/
def exec_jr_e (e : Int) (s : State) : Result := .next (opJumpRelative e s)

/-! ### R334 -/

/-- JR NZ,e (R334). -/
def exec_jr_NZ_e (e : Int) (s : State) : Result := .next (opIf .NZ (opJumpRelative e) s)
/-- JR Z,e (R334). -/
def exec_jr_Z_e (e : Int) (s : State) : Result := .next (opIf .Z (opJumpRelative e) s)
/-- JR NC,e (R334). -/
def exec_jr_NC_e (e : Int) (s : State) : Result := .next (opIf .NC (opJumpRelative e) s)
/-- JR C,e (R334). -/
def exec_jr_C_e (e : Int) (s : State) : Result := .next (opIf .C (opJumpRelative e) s)

/-! ### R335 -/

/-- JP (HL) (R335). -/
def exec_jp_mHL (s : State) : Result := .next (opJump (s.get16 .HL) s)
/-- JP (IX) (R335). -/
def exec_jp_mIX (s : State) : Result := .next (opJump (s.get16 .IX) s)
/-- JP (IY) (R335). -/
def exec_jp_mIY (s : State) : Result := .next (opJump (s.get16 .IY) s)

/-! ### R336 -/

/-- DJNZ e (R336). -/
def exec_djnz_e (e : Int) (s : State) : Result := .next (opDjnz e s)

/-! ### R337 -/

/-- CALL nn (R337). -/
def exec_call_nn (nn : Word) (s : State) : Result := .next (opCall nn s)

/-! ### R338 -/

/-- CALL NZ,nn (R338). -/
def exec_call_NZ_nn (nn : Word) (s : State) : Result := .next (opIf .NZ (opCall nn) s)
/-- CALL Z,nn (R338). -/
def exec_call_Z_nn (nn : Word) (s : State) : Result := .next (opIf .Z (opCall nn) s)
/-- CALL NC,nn (R338). -/
def exec_call_NC_nn (nn : Word) (s : State) : Result := .next (opIf .NC (opCall nn) s)
/-- CALL C,nn (R338). -/
def exec_call_C_nn (nn : Word) (s : State) : Result := .next (opIf .C (opCall nn) s)
/-- CALL PO,nn (R338). -/
def exec_call_PO_nn (nn : Word) (s : State) : Result := .next (opIf .PO (opCall nn) s)
/-- CALL PE,nn (R338). -/
def exec_call_PE_nn (nn : Word) (s : State) : Result := .next (opIf .PE (opCall nn) s)
/-- CALL P,nn (R338). -/
def exec_call_P_nn (nn : Word) (s : State) : Result := .next (opIf .P (opCall nn) s)
/-- CALL M,nn (R338). -/
def exec_call_M_nn (nn : Word) (s : State) : Result := .next (opIf .M (opCall nn) s)

/-! ### R339 -/

/-- RET (R339). -/
def exec_ret (s : State) : Result := .next (returnToCaller s)

/-! ### R340 -/

/-- RET NZ (R340). -/
def exec_ret_NZ (s : State) : Result := .next (opIf .NZ returnToCaller s)
/-- RET Z (R340). -/
def exec_ret_Z (s : State) : Result := .next (opIf .Z returnToCaller s)
/-- RET NC (R340). -/
def exec_ret_NC (s : State) : Result := .next (opIf .NC returnToCaller s)
/-- RET C (R340). -/
def exec_ret_C (s : State) : Result := .next (opIf .C returnToCaller s)
/-- RET PO (R340). -/
def exec_ret_PO (s : State) : Result := .next (opIf .PO returnToCaller s)
/-- RET PE (R340). -/
def exec_ret_PE (s : State) : Result := .next (opIf .PE returnToCaller s)
/-- RET P (R340). -/
def exec_ret_P (s : State) : Result := .next (opIf .P returnToCaller s)
/-- RET M (R340). -/
def exec_ret_M (s : State) : Result := .next (opIf .M returnToCaller s)

/-! ### R341 -/

/-- RETI (R341). -/
def exec_reti (s : State) : Result := .next (returnFromMaskable s)

/-! ### R342 -/

/-- RETN (R342). -/
def exec_retn (s : State) : Result := .next (returnFromNonMaskable s)

/-! ### R343 -/

/-- RST 00h (R343). -/
def exec_rst_00 (s : State) : Result := .next (opCall (rstTarget 0) s)
/-- RST 08h (R343). -/
def exec_rst_08 (s : State) : Result := .next (opCall (rstTarget 1) s)
/-- RST 10h (R343). -/
def exec_rst_10 (s : State) : Result := .next (opCall (rstTarget 2) s)
/-- RST 18h (R343). -/
def exec_rst_18 (s : State) : Result := .next (opCall (rstTarget 3) s)
/-- RST 20h (R343). -/
def exec_rst_20 (s : State) : Result := .next (opCall (rstTarget 4) s)
/-- RST 28h (R343). -/
def exec_rst_28 (s : State) : Result := .next (opCall (rstTarget 5) s)
/-- RST 30h (R343). -/
def exec_rst_30 (s : State) : Result := .next (opCall (rstTarget 6) s)
/-- RST 38h (R343). -/
def exec_rst_38 (s : State) : Result := .next (opCall (rstTarget 7) s)

end Sys2Proof.Machine
end

