-- ==== Sys2Proof/Machine/CpuControl.lean ====
section
/-! DEFINITION. CPU control (48_cpu_control.md): the shared operations, then one meaning per instruction. -/

namespace Sys2Proof.Machine

/-- HALT (R391): the halted state, PC at the HALT byte itself. -/
def opHalt (s : State) : State := { s with Halted := true, PC := s.PC - 1 }

/-- DI (R392). -/
def opDi (s : State) : State := { s with IFF1 := false, IFF2 := false }

/-- EI (R393); under `EI_DELAY = true` it also sets the bit of R394. -/
def opEi (s : State) : State :=
  { s with IFF1 := true, IFF2 := true, eiPending := if Config.params.eiDelay then true else s.eiPending }

/-- IM m (R396). -/
def opIm (m : IntMode) (s : State) : State := { s with IM := m }

/-! ### R390 -/

/-- NOP (R390). -/
def exec_nop (s : State) : Result := .next s

/-! ### R391 -/

/-- HALT (R391). -/
def exec_halt (s : State) : Result := .next (opHalt s)

/-! ### R392 -/

/-- DI (R392). -/
def exec_di (s : State) : Result := .next (opDi s)

/-! ### R393 -/

/-- EI (R393). -/
def exec_ei (s : State) : Result := .next (opEi s)

/-! ### R396 -/

/-- IM 0 (R396). -/
def exec_im_0 (s : State) : Result := .next (opIm .im0 s)
/-- IM 1 (R396). -/
def exec_im_1 (s : State) : Result := .next (opIm .im1 s)
/-- IM 2 (R396). -/
def exec_im_2 (s : State) : Result := .next (opIm .im2 s)

end Sys2Proof.Machine
end

