-- ==== Sys2Proof/Machine/Exchange.lean ====
section
/-! DEFINITION. Exchanges (45_load_exchange.md): the shared operations, then one meaning per instruction. -/

namespace Sys2Proof.Machine

/-- EX DE,HL (R310). -/
def opExDeHl (s : State) : State := { s with D := s.H, E := s.L, H := s.D, L := s.E }

/-- EX AF,AF' (R312). -/
def opExAf (s : State) : State :=
  { s with A := s.A', F := Flags.unpack s.F', A' := s.A, F' := s.F.pack }

/-- EXX (R313). -/
def opExx (s : State) : State :=
  { s with
    B := s.B', C := s.C', D := s.D', E := s.E', H := s.H', L := s.L'
    B' := s.B, C' := s.C, D' := s.D, E' := s.E, H' := s.H, L' := s.L }

/-- EX (SP),rr (R314): read low, read high, write high, write low (R72). -/
def opExSp (r : Reg16) (s : State) : State :=
  let t := s.memReadWord s.SP
  let v := s.get16 r
  let s' := t.2.memWrite (nextAddr s.SP) (hiByte v)
  let s' := s'.memWrite s.SP (loByte v)
  s'.set16 r t.1

/-! ### R310 -/

/-- EX DE,HL (R310). -/
def exec_ex_DE_HL (s : State) : Result := .next (opExDeHl s)

/-! ### R312 -/

/-- EX AF,AF' (R312). -/
def exec_ex_AF_AF (s : State) : Result := .next (opExAf s)

/-! ### R313 -/

/-- EXX (R313). -/
def exec_exx (s : State) : Result := .next (opExx s)

/-! ### R314 -/

/-- EX (SP),HL (R314). -/
def exec_ex_mSP_HL (s : State) : Result := .next (opExSp .HL s)
/-- EX (SP),IX (R314). -/
def exec_ex_mSP_IX (s : State) : Result := .next (opExSp .IX s)
/-- EX (SP),IY (R314). -/
def exec_ex_mSP_IY (s : State) : Result := .next (opExSp .IY s)

end Sys2Proof.Machine
end

