-- ==== Sys2Proof/Machine/Load16.lean ====
section
/-! DEFINITION. 16-bit loads (45_load_exchange.md): the shared operations, then one meaning per instruction. -/

namespace Sys2Proof.Machine

/-- A 16-bit register loaded with a word (R300, R307). -/
def opLdWord (r : Reg16) (v : Word) (s : State) : State := s.set16 r v

/-- A 16-bit register loaded from memory (R301 to R303). -/
def opLdFromMem (r : Reg16) (nn : Word) (s : State) : State :=
  let v := s.memReadWord nn
  v.2.set16 r v.1

/-- A 16-bit register stored to memory (R304 to R306). -/
def opStToMem (r : Reg16) (nn : Word) (s : State) : State := s.memWriteWord nn (s.get16 r)

/-! ### R300 -/

/-- LD BC,nn (R300). -/
def exec_ld_BC_nn (nn : Word) (s : State) : Result := .next (opLdWord .BC nn s)
/-- LD DE,nn (R300). -/
def exec_ld_DE_nn (nn : Word) (s : State) : Result := .next (opLdWord .DE nn s)
/-- LD HL,nn (R300). -/
def exec_ld_HL_nn (nn : Word) (s : State) : Result := .next (opLdWord .HL nn s)
/-- LD SP,nn (R300). -/
def exec_ld_SP_nn (nn : Word) (s : State) : Result := .next (opLdWord .SP nn s)
/-- LD IX,nn (R300). -/
def exec_ld_IX_nn (nn : Word) (s : State) : Result := .next (opLdWord .IX nn s)
/-- LD IY,nn (R300). -/
def exec_ld_IY_nn (nn : Word) (s : State) : Result := .next (opLdWord .IY nn s)

/-! ### R301 -/

/-- LD HL,(nn) (R301). -/
def exec_ld_HL_mnn (nn : Word) (s : State) : Result := .next (opLdFromMem .HL nn s)

/-! ### R302 -/

/-- LD BC,(nn) (R302). -/
def exec_ld_BC_mnn (nn : Word) (s : State) : Result := .next (opLdFromMem .BC nn s)
/-- LD DE,(nn) (R302). -/
def exec_ld_DE_mnn (nn : Word) (s : State) : Result := .next (opLdFromMem .DE nn s)
/-- LD HL,(nn) (R302). -/
def exec_ld_HL_mnn_ed (nn : Word) (s : State) : Result := .next (opLdFromMem .HL nn s)
/-- LD SP,(nn) (R302). -/
def exec_ld_SP_mnn (nn : Word) (s : State) : Result := .next (opLdFromMem .SP nn s)

/-! ### R303 -/

/-- LD IX,(nn) (R303). -/
def exec_ld_IX_mnn (nn : Word) (s : State) : Result := .next (opLdFromMem .IX nn s)
/-- LD IY,(nn) (R303). -/
def exec_ld_IY_mnn (nn : Word) (s : State) : Result := .next (opLdFromMem .IY nn s)

/-! ### R304 -/

/-- LD (nn),HL (R304). -/
def exec_ld_mnn_HL (nn : Word) (s : State) : Result := .next (opStToMem .HL nn s)

/-! ### R305 -/

/-- LD (nn),BC (R305). -/
def exec_ld_mnn_BC (nn : Word) (s : State) : Result := .next (opStToMem .BC nn s)
/-- LD (nn),DE (R305). -/
def exec_ld_mnn_DE (nn : Word) (s : State) : Result := .next (opStToMem .DE nn s)
/-- LD (nn),HL (R305). -/
def exec_ld_mnn_HL_ed (nn : Word) (s : State) : Result := .next (opStToMem .HL nn s)
/-- LD (nn),SP (R305). -/
def exec_ld_mnn_SP (nn : Word) (s : State) : Result := .next (opStToMem .SP nn s)

/-! ### R306 -/

/-- LD (nn),IX (R306). -/
def exec_ld_mnn_IX (nn : Word) (s : State) : Result := .next (opStToMem .IX nn s)
/-- LD (nn),IY (R306). -/
def exec_ld_mnn_IY (nn : Word) (s : State) : Result := .next (opStToMem .IY nn s)

/-! ### R307 -/

/-- LD SP,HL (R307). -/
def exec_ld_SP_HL (s : State) : Result := .next (opLdWord .SP (s.get16 .HL) s)
/-- LD SP,IX (R307). -/
def exec_ld_SP_IX (s : State) : Result := .next (opLdWord .SP (s.get16 .IX) s)
/-- LD SP,IY (R307). -/
def exec_ld_SP_IY (s : State) : Result := .next (opLdWord .SP (s.get16 .IY) s)

end Sys2Proof.Machine
end

