-- ==== Sys2Proof/Machine/Load8.lean ====
section
/-! DEFINITION. 8-bit loads (45_load_exchange.md): the shared operations, then one meaning per instruction. -/

namespace Sys2Proof.Machine

/-- An 8-bit load (R281 to R294): the source is read, then the destination written; no flag is written. -/
def opLd8 (dst : Place8) (src : Src8) (s : State) : State :=
  let r := s.readSrc src
  r.2.writePlace dst r.1

/-- LD A,I and LD A,R (R296, R297): `v` is the register read; PV reports IFF2. -/
def opLdASpecial (v : Byte) (s : State) : State := { s with A := v, F := byteFlags v s.IFF2 s.F }

/-! ### R281 -/

/-- LD B,B (R281). -/
def exec_ld_B_B (s : State) : Result := .next (opLd8 (.reg .B) (.place (.reg .B)) s)
/-- LD B,C (R281). -/
def exec_ld_B_C (s : State) : Result := .next (opLd8 (.reg .B) (.place (.reg .C)) s)
/-- LD B,D (R281). -/
def exec_ld_B_D (s : State) : Result := .next (opLd8 (.reg .B) (.place (.reg .D)) s)
/-- LD B,E (R281). -/
def exec_ld_B_E (s : State) : Result := .next (opLd8 (.reg .B) (.place (.reg .E)) s)
/-- LD B,H (R281). -/
def exec_ld_B_H (s : State) : Result := .next (opLd8 (.reg .B) (.place (.reg .H)) s)
/-- LD B,L (R281). -/
def exec_ld_B_L (s : State) : Result := .next (opLd8 (.reg .B) (.place (.reg .L)) s)
/-- LD B,A (R281). -/
def exec_ld_B_A (s : State) : Result := .next (opLd8 (.reg .B) (.place (.reg .A)) s)
/-- LD C,B (R281). -/
def exec_ld_C_B (s : State) : Result := .next (opLd8 (.reg .C) (.place (.reg .B)) s)
/-- LD C,C (R281). -/
def exec_ld_C_C (s : State) : Result := .next (opLd8 (.reg .C) (.place (.reg .C)) s)
/-- LD C,D (R281). -/
def exec_ld_C_D (s : State) : Result := .next (opLd8 (.reg .C) (.place (.reg .D)) s)
/-- LD C,E (R281). -/
def exec_ld_C_E (s : State) : Result := .next (opLd8 (.reg .C) (.place (.reg .E)) s)
/-- LD C,H (R281). -/
def exec_ld_C_H (s : State) : Result := .next (opLd8 (.reg .C) (.place (.reg .H)) s)
/-- LD C,L (R281). -/
def exec_ld_C_L (s : State) : Result := .next (opLd8 (.reg .C) (.place (.reg .L)) s)
/-- LD C,A (R281). -/
def exec_ld_C_A (s : State) : Result := .next (opLd8 (.reg .C) (.place (.reg .A)) s)
/-- LD D,B (R281). -/
def exec_ld_D_B (s : State) : Result := .next (opLd8 (.reg .D) (.place (.reg .B)) s)
/-- LD D,C (R281). -/
def exec_ld_D_C (s : State) : Result := .next (opLd8 (.reg .D) (.place (.reg .C)) s)
/-- LD D,D (R281). -/
def exec_ld_D_D (s : State) : Result := .next (opLd8 (.reg .D) (.place (.reg .D)) s)
/-- LD D,E (R281). -/
def exec_ld_D_E (s : State) : Result := .next (opLd8 (.reg .D) (.place (.reg .E)) s)
/-- LD D,H (R281). -/
def exec_ld_D_H (s : State) : Result := .next (opLd8 (.reg .D) (.place (.reg .H)) s)
/-- LD D,L (R281). -/
def exec_ld_D_L (s : State) : Result := .next (opLd8 (.reg .D) (.place (.reg .L)) s)
/-- LD D,A (R281). -/
def exec_ld_D_A (s : State) : Result := .next (opLd8 (.reg .D) (.place (.reg .A)) s)
/-- LD E,B (R281). -/
def exec_ld_E_B (s : State) : Result := .next (opLd8 (.reg .E) (.place (.reg .B)) s)
/-- LD E,C (R281). -/
def exec_ld_E_C (s : State) : Result := .next (opLd8 (.reg .E) (.place (.reg .C)) s)
/-- LD E,D (R281). -/
def exec_ld_E_D (s : State) : Result := .next (opLd8 (.reg .E) (.place (.reg .D)) s)
/-- LD E,E (R281). -/
def exec_ld_E_E (s : State) : Result := .next (opLd8 (.reg .E) (.place (.reg .E)) s)
/-- LD E,H (R281). -/
def exec_ld_E_H (s : State) : Result := .next (opLd8 (.reg .E) (.place (.reg .H)) s)
/-- LD E,L (R281). -/
def exec_ld_E_L (s : State) : Result := .next (opLd8 (.reg .E) (.place (.reg .L)) s)
/-- LD E,A (R281). -/
def exec_ld_E_A (s : State) : Result := .next (opLd8 (.reg .E) (.place (.reg .A)) s)
/-- LD H,B (R281). -/
def exec_ld_H_B (s : State) : Result := .next (opLd8 (.reg .H) (.place (.reg .B)) s)
/-- LD H,C (R281). -/
def exec_ld_H_C (s : State) : Result := .next (opLd8 (.reg .H) (.place (.reg .C)) s)
/-- LD H,D (R281). -/
def exec_ld_H_D (s : State) : Result := .next (opLd8 (.reg .H) (.place (.reg .D)) s)
/-- LD H,E (R281). -/
def exec_ld_H_E (s : State) : Result := .next (opLd8 (.reg .H) (.place (.reg .E)) s)
/-- LD H,H (R281). -/
def exec_ld_H_H (s : State) : Result := .next (opLd8 (.reg .H) (.place (.reg .H)) s)
/-- LD H,L (R281). -/
def exec_ld_H_L (s : State) : Result := .next (opLd8 (.reg .H) (.place (.reg .L)) s)
/-- LD H,A (R281). -/
def exec_ld_H_A (s : State) : Result := .next (opLd8 (.reg .H) (.place (.reg .A)) s)
/-- LD L,B (R281). -/
def exec_ld_L_B (s : State) : Result := .next (opLd8 (.reg .L) (.place (.reg .B)) s)
/-- LD L,C (R281). -/
def exec_ld_L_C (s : State) : Result := .next (opLd8 (.reg .L) (.place (.reg .C)) s)
/-- LD L,D (R281). -/
def exec_ld_L_D (s : State) : Result := .next (opLd8 (.reg .L) (.place (.reg .D)) s)
/-- LD L,E (R281). -/
def exec_ld_L_E (s : State) : Result := .next (opLd8 (.reg .L) (.place (.reg .E)) s)
/-- LD L,H (R281). -/
def exec_ld_L_H (s : State) : Result := .next (opLd8 (.reg .L) (.place (.reg .H)) s)
/-- LD L,L (R281). -/
def exec_ld_L_L (s : State) : Result := .next (opLd8 (.reg .L) (.place (.reg .L)) s)
/-- LD L,A (R281). -/
def exec_ld_L_A (s : State) : Result := .next (opLd8 (.reg .L) (.place (.reg .A)) s)
/-- LD A,B (R281). -/
def exec_ld_A_B (s : State) : Result := .next (opLd8 (.reg .A) (.place (.reg .B)) s)
/-- LD A,C (R281). -/
def exec_ld_A_C (s : State) : Result := .next (opLd8 (.reg .A) (.place (.reg .C)) s)
/-- LD A,D (R281). -/
def exec_ld_A_D (s : State) : Result := .next (opLd8 (.reg .A) (.place (.reg .D)) s)
/-- LD A,E (R281). -/
def exec_ld_A_E (s : State) : Result := .next (opLd8 (.reg .A) (.place (.reg .E)) s)
/-- LD A,H (R281). -/
def exec_ld_A_H (s : State) : Result := .next (opLd8 (.reg .A) (.place (.reg .H)) s)
/-- LD A,L (R281). -/
def exec_ld_A_L (s : State) : Result := .next (opLd8 (.reg .A) (.place (.reg .L)) s)
/-- LD A,A (R281). -/
def exec_ld_A_A (s : State) : Result := .next (opLd8 (.reg .A) (.place (.reg .A)) s)

/-! ### R282 -/

/-- LD B,n (R282). -/
def exec_ld_B_n (n : Byte) (s : State) : Result := .next (opLd8 (.reg .B) (.imm n) s)
/-- LD C,n (R282). -/
def exec_ld_C_n (n : Byte) (s : State) : Result := .next (opLd8 (.reg .C) (.imm n) s)
/-- LD D,n (R282). -/
def exec_ld_D_n (n : Byte) (s : State) : Result := .next (opLd8 (.reg .D) (.imm n) s)
/-- LD E,n (R282). -/
def exec_ld_E_n (n : Byte) (s : State) : Result := .next (opLd8 (.reg .E) (.imm n) s)
/-- LD H,n (R282). -/
def exec_ld_H_n (n : Byte) (s : State) : Result := .next (opLd8 (.reg .H) (.imm n) s)
/-- LD L,n (R282). -/
def exec_ld_L_n (n : Byte) (s : State) : Result := .next (opLd8 (.reg .L) (.imm n) s)
/-- LD A,n (R282). -/
def exec_ld_A_n (n : Byte) (s : State) : Result := .next (opLd8 (.reg .A) (.imm n) s)

/-! ### R283 -/

/-- LD B,(HL) (R283). -/
def exec_ld_B_mHL (s : State) : Result := .next (opLd8 (.reg .B) (.place (.mem .HL)) s)
/-- LD C,(HL) (R283). -/
def exec_ld_C_mHL (s : State) : Result := .next (opLd8 (.reg .C) (.place (.mem .HL)) s)
/-- LD D,(HL) (R283). -/
def exec_ld_D_mHL (s : State) : Result := .next (opLd8 (.reg .D) (.place (.mem .HL)) s)
/-- LD E,(HL) (R283). -/
def exec_ld_E_mHL (s : State) : Result := .next (opLd8 (.reg .E) (.place (.mem .HL)) s)
/-- LD H,(HL) (R283). -/
def exec_ld_H_mHL (s : State) : Result := .next (opLd8 (.reg .H) (.place (.mem .HL)) s)
/-- LD L,(HL) (R283). -/
def exec_ld_L_mHL (s : State) : Result := .next (opLd8 (.reg .L) (.place (.mem .HL)) s)
/-- LD A,(HL) (R283). -/
def exec_ld_A_mHL (s : State) : Result := .next (opLd8 (.reg .A) (.place (.mem .HL)) s)

/-! ### R284 -/

/-- LD B,(IX+d) (R284). -/
def exec_ld_B_mIXd (d : Int) (s : State) : Result := .next (opLd8 (.reg .B) (.place (.mem (.idx .IX d))) s)
/-- LD C,(IX+d) (R284). -/
def exec_ld_C_mIXd (d : Int) (s : State) : Result := .next (opLd8 (.reg .C) (.place (.mem (.idx .IX d))) s)
/-- LD D,(IX+d) (R284). -/
def exec_ld_D_mIXd (d : Int) (s : State) : Result := .next (opLd8 (.reg .D) (.place (.mem (.idx .IX d))) s)
/-- LD E,(IX+d) (R284). -/
def exec_ld_E_mIXd (d : Int) (s : State) : Result := .next (opLd8 (.reg .E) (.place (.mem (.idx .IX d))) s)
/-- LD H,(IX+d) (R284). -/
def exec_ld_H_mIXd (d : Int) (s : State) : Result := .next (opLd8 (.reg .H) (.place (.mem (.idx .IX d))) s)
/-- LD L,(IX+d) (R284). -/
def exec_ld_L_mIXd (d : Int) (s : State) : Result := .next (opLd8 (.reg .L) (.place (.mem (.idx .IX d))) s)
/-- LD A,(IX+d) (R284). -/
def exec_ld_A_mIXd (d : Int) (s : State) : Result := .next (opLd8 (.reg .A) (.place (.mem (.idx .IX d))) s)
/-- LD B,(IY+d) (R284). -/
def exec_ld_B_mIYd (d : Int) (s : State) : Result := .next (opLd8 (.reg .B) (.place (.mem (.idx .IY d))) s)
/-- LD C,(IY+d) (R284). -/
def exec_ld_C_mIYd (d : Int) (s : State) : Result := .next (opLd8 (.reg .C) (.place (.mem (.idx .IY d))) s)
/-- LD D,(IY+d) (R284). -/
def exec_ld_D_mIYd (d : Int) (s : State) : Result := .next (opLd8 (.reg .D) (.place (.mem (.idx .IY d))) s)
/-- LD E,(IY+d) (R284). -/
def exec_ld_E_mIYd (d : Int) (s : State) : Result := .next (opLd8 (.reg .E) (.place (.mem (.idx .IY d))) s)
/-- LD H,(IY+d) (R284). -/
def exec_ld_H_mIYd (d : Int) (s : State) : Result := .next (opLd8 (.reg .H) (.place (.mem (.idx .IY d))) s)
/-- LD L,(IY+d) (R284). -/
def exec_ld_L_mIYd (d : Int) (s : State) : Result := .next (opLd8 (.reg .L) (.place (.mem (.idx .IY d))) s)
/-- LD A,(IY+d) (R284). -/
def exec_ld_A_mIYd (d : Int) (s : State) : Result := .next (opLd8 (.reg .A) (.place (.mem (.idx .IY d))) s)

/-! ### R285 -/

/-- LD (HL),B (R285). -/
def exec_ld_mHL_B (s : State) : Result := .next (opLd8 (.mem .HL) (.place (.reg .B)) s)
/-- LD (HL),C (R285). -/
def exec_ld_mHL_C (s : State) : Result := .next (opLd8 (.mem .HL) (.place (.reg .C)) s)
/-- LD (HL),D (R285). -/
def exec_ld_mHL_D (s : State) : Result := .next (opLd8 (.mem .HL) (.place (.reg .D)) s)
/-- LD (HL),E (R285). -/
def exec_ld_mHL_E (s : State) : Result := .next (opLd8 (.mem .HL) (.place (.reg .E)) s)
/-- LD (HL),H (R285). -/
def exec_ld_mHL_H (s : State) : Result := .next (opLd8 (.mem .HL) (.place (.reg .H)) s)
/-- LD (HL),L (R285). -/
def exec_ld_mHL_L (s : State) : Result := .next (opLd8 (.mem .HL) (.place (.reg .L)) s)
/-- LD (HL),A (R285). -/
def exec_ld_mHL_A (s : State) : Result := .next (opLd8 (.mem .HL) (.place (.reg .A)) s)

/-! ### R286 -/

/-- LD (IX+d),B (R286). -/
def exec_ld_mIXd_B (d : Int) (s : State) : Result := .next (opLd8 (.mem (.idx .IX d)) (.place (.reg .B)) s)
/-- LD (IX+d),C (R286). -/
def exec_ld_mIXd_C (d : Int) (s : State) : Result := .next (opLd8 (.mem (.idx .IX d)) (.place (.reg .C)) s)
/-- LD (IX+d),D (R286). -/
def exec_ld_mIXd_D (d : Int) (s : State) : Result := .next (opLd8 (.mem (.idx .IX d)) (.place (.reg .D)) s)
/-- LD (IX+d),E (R286). -/
def exec_ld_mIXd_E (d : Int) (s : State) : Result := .next (opLd8 (.mem (.idx .IX d)) (.place (.reg .E)) s)
/-- LD (IX+d),H (R286). -/
def exec_ld_mIXd_H (d : Int) (s : State) : Result := .next (opLd8 (.mem (.idx .IX d)) (.place (.reg .H)) s)
/-- LD (IX+d),L (R286). -/
def exec_ld_mIXd_L (d : Int) (s : State) : Result := .next (opLd8 (.mem (.idx .IX d)) (.place (.reg .L)) s)
/-- LD (IX+d),A (R286). -/
def exec_ld_mIXd_A (d : Int) (s : State) : Result := .next (opLd8 (.mem (.idx .IX d)) (.place (.reg .A)) s)
/-- LD (IY+d),B (R286). -/
def exec_ld_mIYd_B (d : Int) (s : State) : Result := .next (opLd8 (.mem (.idx .IY d)) (.place (.reg .B)) s)
/-- LD (IY+d),C (R286). -/
def exec_ld_mIYd_C (d : Int) (s : State) : Result := .next (opLd8 (.mem (.idx .IY d)) (.place (.reg .C)) s)
/-- LD (IY+d),D (R286). -/
def exec_ld_mIYd_D (d : Int) (s : State) : Result := .next (opLd8 (.mem (.idx .IY d)) (.place (.reg .D)) s)
/-- LD (IY+d),E (R286). -/
def exec_ld_mIYd_E (d : Int) (s : State) : Result := .next (opLd8 (.mem (.idx .IY d)) (.place (.reg .E)) s)
/-- LD (IY+d),H (R286). -/
def exec_ld_mIYd_H (d : Int) (s : State) : Result := .next (opLd8 (.mem (.idx .IY d)) (.place (.reg .H)) s)
/-- LD (IY+d),L (R286). -/
def exec_ld_mIYd_L (d : Int) (s : State) : Result := .next (opLd8 (.mem (.idx .IY d)) (.place (.reg .L)) s)
/-- LD (IY+d),A (R286). -/
def exec_ld_mIYd_A (d : Int) (s : State) : Result := .next (opLd8 (.mem (.idx .IY d)) (.place (.reg .A)) s)

/-! ### R287 -/

/-- LD (HL),n (R287). -/
def exec_ld_mHL_n (n : Byte) (s : State) : Result := .next (opLd8 (.mem .HL) (.imm n) s)

/-! ### R288 -/

/-- LD (IX+d),n (R288). -/
def exec_ld_mIXd_n (d : Int) (n : Byte) (s : State) : Result := .next (opLd8 (.mem (.idx .IX d)) (.imm n) s)
/-- LD (IY+d),n (R288). -/
def exec_ld_mIYd_n (d : Int) (n : Byte) (s : State) : Result := .next (opLd8 (.mem (.idx .IY d)) (.imm n) s)

/-! ### R289 -/

/-- LD A,(BC) (R289). -/
def exec_ld_A_mBC (s : State) : Result := .next (opLd8 (.reg .A) (.place (.mem .BC)) s)
/-- LD A,(DE) (R289). -/
def exec_ld_A_mDE (s : State) : Result := .next (opLd8 (.reg .A) (.place (.mem .DE)) s)

/-! ### R290 -/

/-- LD A,(nn) (R290). -/
def exec_ld_A_mnn (nn : Word) (s : State) : Result := .next (opLd8 (.reg .A) (.place (.mem (.abs nn))) s)

/-! ### R291 -/

/-- LD (BC),A (R291). -/
def exec_ld_mBC_A (s : State) : Result := .next (opLd8 (.mem .BC) (.place (.reg .A)) s)
/-- LD (DE),A (R291). -/
def exec_ld_mDE_A (s : State) : Result := .next (opLd8 (.mem .DE) (.place (.reg .A)) s)

/-! ### R292 -/

/-- LD (nn),A (R292). -/
def exec_ld_mnn_A (nn : Word) (s : State) : Result := .next (opLd8 (.mem (.abs nn)) (.place (.reg .A)) s)

/-! ### R293 -/

/-- LD B,IXH (R293). -/
def exec_ld_B_IXH (s : State) : Result := .next (opLd8 (.reg .B) (.place (.half .IX .H)) s)
/-- LD B,IXL (R293). -/
def exec_ld_B_IXL (s : State) : Result := .next (opLd8 (.reg .B) (.place (.half .IX .L)) s)
/-- LD C,IXH (R293). -/
def exec_ld_C_IXH (s : State) : Result := .next (opLd8 (.reg .C) (.place (.half .IX .H)) s)
/-- LD C,IXL (R293). -/
def exec_ld_C_IXL (s : State) : Result := .next (opLd8 (.reg .C) (.place (.half .IX .L)) s)
/-- LD D,IXH (R293). -/
def exec_ld_D_IXH (s : State) : Result := .next (opLd8 (.reg .D) (.place (.half .IX .H)) s)
/-- LD D,IXL (R293). -/
def exec_ld_D_IXL (s : State) : Result := .next (opLd8 (.reg .D) (.place (.half .IX .L)) s)
/-- LD E,IXH (R293). -/
def exec_ld_E_IXH (s : State) : Result := .next (opLd8 (.reg .E) (.place (.half .IX .H)) s)
/-- LD E,IXL (R293). -/
def exec_ld_E_IXL (s : State) : Result := .next (opLd8 (.reg .E) (.place (.half .IX .L)) s)
/-- LD IXH,B (R293). -/
def exec_ld_IXH_B (s : State) : Result := .next (opLd8 (.half .IX .H) (.place (.reg .B)) s)
/-- LD IXH,C (R293). -/
def exec_ld_IXH_C (s : State) : Result := .next (opLd8 (.half .IX .H) (.place (.reg .C)) s)
/-- LD IXH,D (R293). -/
def exec_ld_IXH_D (s : State) : Result := .next (opLd8 (.half .IX .H) (.place (.reg .D)) s)
/-- LD IXH,E (R293). -/
def exec_ld_IXH_E (s : State) : Result := .next (opLd8 (.half .IX .H) (.place (.reg .E)) s)
/-- LD IXH,IXH (R293). -/
def exec_ld_IXH_IXH (s : State) : Result := .next (opLd8 (.half .IX .H) (.place (.half .IX .H)) s)
/-- LD IXH,IXL (R293). -/
def exec_ld_IXH_IXL (s : State) : Result := .next (opLd8 (.half .IX .H) (.place (.half .IX .L)) s)
/-- LD IXH,A (R293). -/
def exec_ld_IXH_A (s : State) : Result := .next (opLd8 (.half .IX .H) (.place (.reg .A)) s)
/-- LD IXL,B (R293). -/
def exec_ld_IXL_B (s : State) : Result := .next (opLd8 (.half .IX .L) (.place (.reg .B)) s)
/-- LD IXL,C (R293). -/
def exec_ld_IXL_C (s : State) : Result := .next (opLd8 (.half .IX .L) (.place (.reg .C)) s)
/-- LD IXL,D (R293). -/
def exec_ld_IXL_D (s : State) : Result := .next (opLd8 (.half .IX .L) (.place (.reg .D)) s)
/-- LD IXL,E (R293). -/
def exec_ld_IXL_E (s : State) : Result := .next (opLd8 (.half .IX .L) (.place (.reg .E)) s)
/-- LD IXL,IXH (R293). -/
def exec_ld_IXL_IXH (s : State) : Result := .next (opLd8 (.half .IX .L) (.place (.half .IX .H)) s)
/-- LD IXL,IXL (R293). -/
def exec_ld_IXL_IXL (s : State) : Result := .next (opLd8 (.half .IX .L) (.place (.half .IX .L)) s)
/-- LD IXL,A (R293). -/
def exec_ld_IXL_A (s : State) : Result := .next (opLd8 (.half .IX .L) (.place (.reg .A)) s)
/-- LD A,IXH (R293). -/
def exec_ld_A_IXH (s : State) : Result := .next (opLd8 (.reg .A) (.place (.half .IX .H)) s)
/-- LD A,IXL (R293). -/
def exec_ld_A_IXL (s : State) : Result := .next (opLd8 (.reg .A) (.place (.half .IX .L)) s)
/-- LD B,IYH (R293). -/
def exec_ld_B_IYH (s : State) : Result := .next (opLd8 (.reg .B) (.place (.half .IY .H)) s)
/-- LD B,IYL (R293). -/
def exec_ld_B_IYL (s : State) : Result := .next (opLd8 (.reg .B) (.place (.half .IY .L)) s)
/-- LD C,IYH (R293). -/
def exec_ld_C_IYH (s : State) : Result := .next (opLd8 (.reg .C) (.place (.half .IY .H)) s)
/-- LD C,IYL (R293). -/
def exec_ld_C_IYL (s : State) : Result := .next (opLd8 (.reg .C) (.place (.half .IY .L)) s)
/-- LD D,IYH (R293). -/
def exec_ld_D_IYH (s : State) : Result := .next (opLd8 (.reg .D) (.place (.half .IY .H)) s)
/-- LD D,IYL (R293). -/
def exec_ld_D_IYL (s : State) : Result := .next (opLd8 (.reg .D) (.place (.half .IY .L)) s)
/-- LD E,IYH (R293). -/
def exec_ld_E_IYH (s : State) : Result := .next (opLd8 (.reg .E) (.place (.half .IY .H)) s)
/-- LD E,IYL (R293). -/
def exec_ld_E_IYL (s : State) : Result := .next (opLd8 (.reg .E) (.place (.half .IY .L)) s)
/-- LD IYH,B (R293). -/
def exec_ld_IYH_B (s : State) : Result := .next (opLd8 (.half .IY .H) (.place (.reg .B)) s)
/-- LD IYH,C (R293). -/
def exec_ld_IYH_C (s : State) : Result := .next (opLd8 (.half .IY .H) (.place (.reg .C)) s)
/-- LD IYH,D (R293). -/
def exec_ld_IYH_D (s : State) : Result := .next (opLd8 (.half .IY .H) (.place (.reg .D)) s)
/-- LD IYH,E (R293). -/
def exec_ld_IYH_E (s : State) : Result := .next (opLd8 (.half .IY .H) (.place (.reg .E)) s)
/-- LD IYH,IYH (R293). -/
def exec_ld_IYH_IYH (s : State) : Result := .next (opLd8 (.half .IY .H) (.place (.half .IY .H)) s)
/-- LD IYH,IYL (R293). -/
def exec_ld_IYH_IYL (s : State) : Result := .next (opLd8 (.half .IY .H) (.place (.half .IY .L)) s)
/-- LD IYH,A (R293). -/
def exec_ld_IYH_A (s : State) : Result := .next (opLd8 (.half .IY .H) (.place (.reg .A)) s)
/-- LD IYL,B (R293). -/
def exec_ld_IYL_B (s : State) : Result := .next (opLd8 (.half .IY .L) (.place (.reg .B)) s)
/-- LD IYL,C (R293). -/
def exec_ld_IYL_C (s : State) : Result := .next (opLd8 (.half .IY .L) (.place (.reg .C)) s)
/-- LD IYL,D (R293). -/
def exec_ld_IYL_D (s : State) : Result := .next (opLd8 (.half .IY .L) (.place (.reg .D)) s)
/-- LD IYL,E (R293). -/
def exec_ld_IYL_E (s : State) : Result := .next (opLd8 (.half .IY .L) (.place (.reg .E)) s)
/-- LD IYL,IYH (R293). -/
def exec_ld_IYL_IYH (s : State) : Result := .next (opLd8 (.half .IY .L) (.place (.half .IY .H)) s)
/-- LD IYL,IYL (R293). -/
def exec_ld_IYL_IYL (s : State) : Result := .next (opLd8 (.half .IY .L) (.place (.half .IY .L)) s)
/-- LD IYL,A (R293). -/
def exec_ld_IYL_A (s : State) : Result := .next (opLd8 (.half .IY .L) (.place (.reg .A)) s)
/-- LD A,IYH (R293). -/
def exec_ld_A_IYH (s : State) : Result := .next (opLd8 (.reg .A) (.place (.half .IY .H)) s)
/-- LD A,IYL (R293). -/
def exec_ld_A_IYL (s : State) : Result := .next (opLd8 (.reg .A) (.place (.half .IY .L)) s)

/-! ### R294 -/

/-- LD IXH,n (R294). -/
def exec_ld_IXH_n (n : Byte) (s : State) : Result := .next (opLd8 (.half .IX .H) (.imm n) s)
/-- LD IXL,n (R294). -/
def exec_ld_IXL_n (n : Byte) (s : State) : Result := .next (opLd8 (.half .IX .L) (.imm n) s)
/-- LD IYH,n (R294). -/
def exec_ld_IYH_n (n : Byte) (s : State) : Result := .next (opLd8 (.half .IY .H) (.imm n) s)
/-- LD IYL,n (R294). -/
def exec_ld_IYL_n (n : Byte) (s : State) : Result := .next (opLd8 (.half .IY .L) (.imm n) s)

/-! ### R296 -/

/-- LD A,I (R296). -/
def exec_ld_A_I (s : State) : Result := .next (opLdASpecial s.I s)

/-! ### R297 -/

/-- LD A,R (R297). -/
def exec_ld_A_R (s : State) : Result := .next (opLdASpecial s.R s)

/-! ### R298 -/

/-- LD I,A (R298). -/
def exec_ld_I_A (s : State) : Result := .next { s with I := s.A }

/-! ### R299 -/

/-- LD R,A (R299). -/
def exec_ld_R_A (s : State) : Result := .next { s with R := s.A }

end Sys2Proof.Machine
end

