-- ==== Sys2Proof/Machine/PortIo.lean ====
section
/-! DEFINITION. Port input and output (47_io.md): the shared operations, then one meaning per instruction. -/

namespace Sys2Proof.Machine

/-- The port of IN A,(n) and OUT (n),A: `(A << 8) | n`, A before the instruction (R370). -/
def accPort (n : Byte) (s : State) : Word := joinBytes s.A n

/-- IN r,(C) (R371). -/
def opInReg (r : Reg8) (s : State) : State :=
  let v := s.ioRead (s.get16 .BC)
  { v.2 with F := byteFlags v.1 (parity v.1) s.F }.set8 r v.1

/-- IN A,(n) (R372): no flag is written. -/
def opInA (n : Byte) (s : State) : State :=
  let v := s.ioRead (accPort n s)
  { v.2 with A := v.1 }

/-- OUT (C),r (R373). -/
def opOutReg (r : Reg8) (s : State) : State := s.ioWrite (s.get16 .BC) (s.get8 r)

/-- OUT (n),A (R374). -/
def opOutA (n : Byte) (s : State) : State := s.ioWrite (accPort n s) s.A

/-! ### R371 -/

/-- IN B,(C) (R371). -/
def exec_in_B_mC (s : State) : Result := .next (opInReg .B s)
/-- IN C,(C) (R371). -/
def exec_in_C_mC (s : State) : Result := .next (opInReg .C s)
/-- IN D,(C) (R371). -/
def exec_in_D_mC (s : State) : Result := .next (opInReg .D s)
/-- IN E,(C) (R371). -/
def exec_in_E_mC (s : State) : Result := .next (opInReg .E s)
/-- IN H,(C) (R371). -/
def exec_in_H_mC (s : State) : Result := .next (opInReg .H s)
/-- IN L,(C) (R371). -/
def exec_in_L_mC (s : State) : Result := .next (opInReg .L s)
/-- IN A,(C) (R371). -/
def exec_in_A_mC (s : State) : Result := .next (opInReg .A s)

/-! ### R372 -/

/-- IN A,(n) (R372). -/
def exec_in_A_mn (n : Byte) (s : State) : Result := .next (opInA n s)

/-! ### R373 -/

/-- OUT (C),B (R373). -/
def exec_out_mC_B (s : State) : Result := .next (opOutReg .B s)
/-- OUT (C),C (R373). -/
def exec_out_mC_C (s : State) : Result := .next (opOutReg .C s)
/-- OUT (C),D (R373). -/
def exec_out_mC_D (s : State) : Result := .next (opOutReg .D s)
/-- OUT (C),E (R373). -/
def exec_out_mC_E (s : State) : Result := .next (opOutReg .E s)
/-- OUT (C),H (R373). -/
def exec_out_mC_H (s : State) : Result := .next (opOutReg .H s)
/-- OUT (C),L (R373). -/
def exec_out_mC_L (s : State) : Result := .next (opOutReg .L s)
/-- OUT (C),A (R373). -/
def exec_out_mC_A (s : State) : Result := .next (opOutReg .A s)

/-! ### R374 -/

/-- OUT (n),A (R374). -/
def exec_out_mn_A (n : Byte) (s : State) : Result := .next (opOutA n s)

end Sys2Proof.Machine
end

