-- ==== Sys2Proof/Machine/RotateShift.lean ====
section
/-! DEFINITION. Rotates and shifts (42_rotate_shift.md): the shared operations, then one meaning per instruction. -/

namespace Sys2Proof.Machine

/-- RLCA, RRCA, RLA and RRA (R200 to R204): the rotation of the CB operation `op`, the flags of R200. -/
def opAccRot (op : RotOp) (s : State) : State :=
  let r := rotByte op s.A s.F.C
  { s with A := r.1, F := accRotFlags r.1 r.2 s.F }

/-- The CB rotates and shifts (R205). -/
def opRot (op : RotOp) (m : CbPlace) (s : State) : State := s.modify m.place (rot8 op)

/-- RLD (R215). -/
def opRld (s : State) : State :=
  let t := s.memRead (s.get16 .HL)
  let s' := t.2.memWrite (s.get16 .HL) ((t.1 <<< 4) ||| (s.A &&& 0x0F))
  let a := (s.A &&& 0xF0) ||| (t.1 >>> 4)
  { s' with A := a, F := byteFlags a (parity a) s.F }

/-- RRD (R216). -/
def opRrd (s : State) : State :=
  let t := s.memRead (s.get16 .HL)
  let s' := t.2.memWrite (s.get16 .HL) ((s.A <<< 4) ||| (t.1 >>> 4))
  let a := (s.A &&& 0xF0) ||| (t.1 &&& 0x0F)
  { s' with A := a, F := byteFlags a (parity a) s.F }

/-! ### R201 -/

/-- RLCA (R201). -/
def exec_rlca (s : State) : Result := .next (opAccRot .RLC s)

/-! ### R202 -/

/-- RRCA (R202). -/
def exec_rrca (s : State) : Result := .next (opAccRot .RRC s)

/-! ### R203 -/

/-- RLA (R203). -/
def exec_rla (s : State) : Result := .next (opAccRot .RL s)

/-! ### R204 -/

/-- RRA (R204). -/
def exec_rra (s : State) : Result := .next (opAccRot .RR s)

/-! ### R206 -/

/-- RLC B (R206). -/
def exec_rlc_B (s : State) : Result := .next (opRot .RLC (.reg .B) s)
/-- RLC C (R206). -/
def exec_rlc_C (s : State) : Result := .next (opRot .RLC (.reg .C) s)
/-- RLC D (R206). -/
def exec_rlc_D (s : State) : Result := .next (opRot .RLC (.reg .D) s)
/-- RLC E (R206). -/
def exec_rlc_E (s : State) : Result := .next (opRot .RLC (.reg .E) s)
/-- RLC H (R206). -/
def exec_rlc_H (s : State) : Result := .next (opRot .RLC (.reg .H) s)
/-- RLC L (R206). -/
def exec_rlc_L (s : State) : Result := .next (opRot .RLC (.reg .L) s)
/-- RLC (HL) (R206). -/
def exec_rlc_mHL (s : State) : Result := .next (opRot .RLC .memHL s)
/-- RLC A (R206). -/
def exec_rlc_A (s : State) : Result := .next (opRot .RLC (.reg .A) s)
/-- RLC (IX+d) (R206). -/
def exec_rlc_mIXd (d : Int) (s : State) : Result := .next (opRot .RLC (.memIdx .IX d) s)
/-- RLC (IY+d) (R206). -/
def exec_rlc_mIYd (d : Int) (s : State) : Result := .next (opRot .RLC (.memIdx .IY d) s)

/-! ### R207 -/

/-- RRC B (R207). -/
def exec_rrc_B (s : State) : Result := .next (opRot .RRC (.reg .B) s)
/-- RRC C (R207). -/
def exec_rrc_C (s : State) : Result := .next (opRot .RRC (.reg .C) s)
/-- RRC D (R207). -/
def exec_rrc_D (s : State) : Result := .next (opRot .RRC (.reg .D) s)
/-- RRC E (R207). -/
def exec_rrc_E (s : State) : Result := .next (opRot .RRC (.reg .E) s)
/-- RRC H (R207). -/
def exec_rrc_H (s : State) : Result := .next (opRot .RRC (.reg .H) s)
/-- RRC L (R207). -/
def exec_rrc_L (s : State) : Result := .next (opRot .RRC (.reg .L) s)
/-- RRC (HL) (R207). -/
def exec_rrc_mHL (s : State) : Result := .next (opRot .RRC .memHL s)
/-- RRC A (R207). -/
def exec_rrc_A (s : State) : Result := .next (opRot .RRC (.reg .A) s)
/-- RRC (IX+d) (R207). -/
def exec_rrc_mIXd (d : Int) (s : State) : Result := .next (opRot .RRC (.memIdx .IX d) s)
/-- RRC (IY+d) (R207). -/
def exec_rrc_mIYd (d : Int) (s : State) : Result := .next (opRot .RRC (.memIdx .IY d) s)

/-! ### R208 -/

/-- RL B (R208). -/
def exec_rl_B (s : State) : Result := .next (opRot .RL (.reg .B) s)
/-- RL C (R208). -/
def exec_rl_C (s : State) : Result := .next (opRot .RL (.reg .C) s)
/-- RL D (R208). -/
def exec_rl_D (s : State) : Result := .next (opRot .RL (.reg .D) s)
/-- RL E (R208). -/
def exec_rl_E (s : State) : Result := .next (opRot .RL (.reg .E) s)
/-- RL H (R208). -/
def exec_rl_H (s : State) : Result := .next (opRot .RL (.reg .H) s)
/-- RL L (R208). -/
def exec_rl_L (s : State) : Result := .next (opRot .RL (.reg .L) s)
/-- RL (HL) (R208). -/
def exec_rl_mHL (s : State) : Result := .next (opRot .RL .memHL s)
/-- RL A (R208). -/
def exec_rl_A (s : State) : Result := .next (opRot .RL (.reg .A) s)
/-- RL (IX+d) (R208). -/
def exec_rl_mIXd (d : Int) (s : State) : Result := .next (opRot .RL (.memIdx .IX d) s)
/-- RL (IY+d) (R208). -/
def exec_rl_mIYd (d : Int) (s : State) : Result := .next (opRot .RL (.memIdx .IY d) s)

/-! ### R209 -/

/-- RR B (R209). -/
def exec_rr_B (s : State) : Result := .next (opRot .RR (.reg .B) s)
/-- RR C (R209). -/
def exec_rr_C (s : State) : Result := .next (opRot .RR (.reg .C) s)
/-- RR D (R209). -/
def exec_rr_D (s : State) : Result := .next (opRot .RR (.reg .D) s)
/-- RR E (R209). -/
def exec_rr_E (s : State) : Result := .next (opRot .RR (.reg .E) s)
/-- RR H (R209). -/
def exec_rr_H (s : State) : Result := .next (opRot .RR (.reg .H) s)
/-- RR L (R209). -/
def exec_rr_L (s : State) : Result := .next (opRot .RR (.reg .L) s)
/-- RR (HL) (R209). -/
def exec_rr_mHL (s : State) : Result := .next (opRot .RR .memHL s)
/-- RR A (R209). -/
def exec_rr_A (s : State) : Result := .next (opRot .RR (.reg .A) s)
/-- RR (IX+d) (R209). -/
def exec_rr_mIXd (d : Int) (s : State) : Result := .next (opRot .RR (.memIdx .IX d) s)
/-- RR (IY+d) (R209). -/
def exec_rr_mIYd (d : Int) (s : State) : Result := .next (opRot .RR (.memIdx .IY d) s)

/-! ### R210 -/

/-- SLA B (R210). -/
def exec_sla_B (s : State) : Result := .next (opRot .SLA (.reg .B) s)
/-- SLA C (R210). -/
def exec_sla_C (s : State) : Result := .next (opRot .SLA (.reg .C) s)
/-- SLA D (R210). -/
def exec_sla_D (s : State) : Result := .next (opRot .SLA (.reg .D) s)
/-- SLA E (R210). -/
def exec_sla_E (s : State) : Result := .next (opRot .SLA (.reg .E) s)
/-- SLA H (R210). -/
def exec_sla_H (s : State) : Result := .next (opRot .SLA (.reg .H) s)
/-- SLA L (R210). -/
def exec_sla_L (s : State) : Result := .next (opRot .SLA (.reg .L) s)
/-- SLA (HL) (R210). -/
def exec_sla_mHL (s : State) : Result := .next (opRot .SLA .memHL s)
/-- SLA A (R210). -/
def exec_sla_A (s : State) : Result := .next (opRot .SLA (.reg .A) s)
/-- SLA (IX+d) (R210). -/
def exec_sla_mIXd (d : Int) (s : State) : Result := .next (opRot .SLA (.memIdx .IX d) s)
/-- SLA (IY+d) (R210). -/
def exec_sla_mIYd (d : Int) (s : State) : Result := .next (opRot .SLA (.memIdx .IY d) s)

/-! ### R211 -/

/-- SRA B (R211). -/
def exec_sra_B (s : State) : Result := .next (opRot .SRA (.reg .B) s)
/-- SRA C (R211). -/
def exec_sra_C (s : State) : Result := .next (opRot .SRA (.reg .C) s)
/-- SRA D (R211). -/
def exec_sra_D (s : State) : Result := .next (opRot .SRA (.reg .D) s)
/-- SRA E (R211). -/
def exec_sra_E (s : State) : Result := .next (opRot .SRA (.reg .E) s)
/-- SRA H (R211). -/
def exec_sra_H (s : State) : Result := .next (opRot .SRA (.reg .H) s)
/-- SRA L (R211). -/
def exec_sra_L (s : State) : Result := .next (opRot .SRA (.reg .L) s)
/-- SRA (HL) (R211). -/
def exec_sra_mHL (s : State) : Result := .next (opRot .SRA .memHL s)
/-- SRA A (R211). -/
def exec_sra_A (s : State) : Result := .next (opRot .SRA (.reg .A) s)
/-- SRA (IX+d) (R211). -/
def exec_sra_mIXd (d : Int) (s : State) : Result := .next (opRot .SRA (.memIdx .IX d) s)
/-- SRA (IY+d) (R211). -/
def exec_sra_mIYd (d : Int) (s : State) : Result := .next (opRot .SRA (.memIdx .IY d) s)

/-! ### R212 -/

/-- SLL B (R212). -/
def exec_sll_B (s : State) : Result := .next (opRot .SLL (.reg .B) s)
/-- SLL C (R212). -/
def exec_sll_C (s : State) : Result := .next (opRot .SLL (.reg .C) s)
/-- SLL D (R212). -/
def exec_sll_D (s : State) : Result := .next (opRot .SLL (.reg .D) s)
/-- SLL E (R212). -/
def exec_sll_E (s : State) : Result := .next (opRot .SLL (.reg .E) s)
/-- SLL H (R212). -/
def exec_sll_H (s : State) : Result := .next (opRot .SLL (.reg .H) s)
/-- SLL L (R212). -/
def exec_sll_L (s : State) : Result := .next (opRot .SLL (.reg .L) s)
/-- SLL (HL) (R212). -/
def exec_sll_mHL (s : State) : Result := .next (opRot .SLL .memHL s)
/-- SLL A (R212). -/
def exec_sll_A (s : State) : Result := .next (opRot .SLL (.reg .A) s)
/-- SLL (IX+d) (R212). -/
def exec_sll_mIXd (d : Int) (s : State) : Result := .next (opRot .SLL (.memIdx .IX d) s)
/-- SLL (IY+d) (R212). -/
def exec_sll_mIYd (d : Int) (s : State) : Result := .next (opRot .SLL (.memIdx .IY d) s)

/-! ### R213 -/

/-- SRL B (R213). -/
def exec_srl_B (s : State) : Result := .next (opRot .SRL (.reg .B) s)
/-- SRL C (R213). -/
def exec_srl_C (s : State) : Result := .next (opRot .SRL (.reg .C) s)
/-- SRL D (R213). -/
def exec_srl_D (s : State) : Result := .next (opRot .SRL (.reg .D) s)
/-- SRL E (R213). -/
def exec_srl_E (s : State) : Result := .next (opRot .SRL (.reg .E) s)
/-- SRL H (R213). -/
def exec_srl_H (s : State) : Result := .next (opRot .SRL (.reg .H) s)
/-- SRL L (R213). -/
def exec_srl_L (s : State) : Result := .next (opRot .SRL (.reg .L) s)
/-- SRL (HL) (R213). -/
def exec_srl_mHL (s : State) : Result := .next (opRot .SRL .memHL s)
/-- SRL A (R213). -/
def exec_srl_A (s : State) : Result := .next (opRot .SRL (.reg .A) s)
/-- SRL (IX+d) (R213). -/
def exec_srl_mIXd (d : Int) (s : State) : Result := .next (opRot .SRL (.memIdx .IX d) s)
/-- SRL (IY+d) (R213). -/
def exec_srl_mIYd (d : Int) (s : State) : Result := .next (opRot .SRL (.memIdx .IY d) s)

/-! ### R215 -/

/-- RLD (R215). -/
def exec_rld (s : State) : Result := .next (opRld s)

/-! ### R216 -/

/-- RRD (R216). -/
def exec_rrd (s : State) : Result := .next (opRrd s)

end Sys2Proof.Machine
end

