-- ==== Sys2Proof/Machine/Stack.lean ====
section
/-! DEFINITION. PUSH and POP (45_load_exchange.md): the shared operations, then one meaning per instruction. -/

namespace Sys2Proof.Machine

/-- PUSH qq (R322). -/
def opPush (r : Reg16) (s : State) : State := s.push16 (s.get16 r)

/-- POP qq (R323). -/
def opPop (r : Reg16) (s : State) : State :=
  let v := s.pop16
  v.2.set16 r v.1

/-! ### R322 -/

/-- PUSH BC (R322). -/
def exec_push_BC (s : State) : Result := .next (opPush .BC s)
/-- PUSH DE (R322). -/
def exec_push_DE (s : State) : Result := .next (opPush .DE s)
/-- PUSH HL (R322). -/
def exec_push_HL (s : State) : Result := .next (opPush .HL s)
/-- PUSH AF (R322). -/
def exec_push_AF (s : State) : Result := .next (opPush .AF s)
/-- PUSH IX (R322). -/
def exec_push_IX (s : State) : Result := .next (opPush .IX s)
/-- PUSH IY (R322). -/
def exec_push_IY (s : State) : Result := .next (opPush .IY s)

/-! ### R323 -/

/-- POP BC (R323). -/
def exec_pop_BC (s : State) : Result := .next (opPop .BC s)
/-- POP DE (R323). -/
def exec_pop_DE (s : State) : Result := .next (opPop .DE s)
/-- POP HL (R323). -/
def exec_pop_HL (s : State) : Result := .next (opPop .HL s)
/-- POP AF (R323). -/
def exec_pop_AF (s : State) : Result := .next (opPop .AF s)
/-- POP IX (R323). -/
def exec_pop_IX (s : State) : Result := .next (opPop .IX s)
/-- POP IY (R323). -/
def exec_pop_IY (s : State) : Result := .next (opPop .IY s)

end Sys2Proof.Machine
end

