-- ==== Sys2Proof/Syntax.lean ====
section
/-! DEFINITION. The instructions: one constructor per row of spec/opcode_table.json: the rows with operands first,
then the others, each in the table's order (Lean's runtime gives a constructor with fields no number above 244). A register, condition
or bit number is part of a row's name, as in the table; what remains as an operand is an immediate byte `n`, an immediate word
`nn`, a displacement `d` or a relative offset `e`, the last two signed (30_encoding.md R104). In a constructor's name `m` stands
for the parentheses of a memory or port operand. -/

namespace Sys2Proof

inductive Instr where
  -- Base layer (30_encoding.md R110), with operands
  | ld_BC_nn (nn : Word)
  | ld_B_n (n : Byte)
  | ld_C_n (n : Byte)
  | djnz_e (e : Int)
  | ld_DE_nn (nn : Word)
  | ld_D_n (n : Byte)
  | jr_e (e : Int)
  | ld_E_n (n : Byte)
  | jr_NZ_e (e : Int)
  | ld_HL_nn (nn : Word)
  | ld_mnn_HL (nn : Word)
  | ld_H_n (n : Byte)
  | jr_Z_e (e : Int)
  | ld_HL_mnn (nn : Word)
  | ld_L_n (n : Byte)
  | jr_NC_e (e : Int)
  | ld_SP_nn (nn : Word)
  | ld_mnn_A (nn : Word)
  | ld_mHL_n (n : Byte)
  | jr_C_e (e : Int)
  | ld_A_mnn (nn : Word)
  | ld_A_n (n : Byte)
  | jp_NZ_nn (nn : Word)
  | jp_nn (nn : Word)
  | call_NZ_nn (nn : Word)
  | add_A_n (n : Byte)
  | jp_Z_nn (nn : Word)
  | call_Z_nn (nn : Word)
  | call_nn (nn : Word)
  | adc_A_n (n : Byte)
  | jp_NC_nn (nn : Word)
  | out_mn_A (n : Byte)
  | call_NC_nn (nn : Word)
  | sub_n (n : Byte)
  | jp_C_nn (nn : Word)
  | in_A_mn (n : Byte)
  | call_C_nn (nn : Word)
  | sbc_A_n (n : Byte)
  | jp_PO_nn (nn : Word)
  | call_PO_nn (nn : Word)
  | and_n (n : Byte)
  | jp_PE_nn (nn : Word)
  | call_PE_nn (nn : Word)
  | xor_n (n : Byte)
  | jp_P_nn (nn : Word)
  | call_P_nn (nn : Word)
  | or_n (n : Byte)
  | jp_M_nn (nn : Word)
  | call_M_nn (nn : Word)
  | cp_n (n : Byte)
  -- ED layer (R112), with operands
  | ld_mnn_BC (nn : Word)
  | ld_BC_mnn (nn : Word)
  | ld_mnn_DE (nn : Word)
  | ld_DE_mnn (nn : Word)
  | ld_mnn_HL_ed (nn : Word)
  | ld_HL_mnn_ed (nn : Word)
  | ld_mnn_SP (nn : Word)
  | ld_SP_mnn (nn : Word)
  -- DD layer (R113), with operands
  | ld_IX_nn (nn : Word)
  | ld_mnn_IX (nn : Word)
  | ld_IXH_n (n : Byte)
  | ld_IX_mnn (nn : Word)
  | ld_IXL_n (n : Byte)
  | inc_mIXd (d : Int)
  | dec_mIXd (d : Int)
  | ld_mIXd_n (d : Int) (n : Byte)
  | ld_B_mIXd (d : Int)
  | ld_C_mIXd (d : Int)
  | ld_D_mIXd (d : Int)
  | ld_E_mIXd (d : Int)
  | ld_H_mIXd (d : Int)
  | ld_L_mIXd (d : Int)
  | ld_mIXd_B (d : Int)
  | ld_mIXd_C (d : Int)
  | ld_mIXd_D (d : Int)
  | ld_mIXd_E (d : Int)
  | ld_mIXd_H (d : Int)
  | ld_mIXd_L (d : Int)
  | ld_mIXd_A (d : Int)
  | ld_A_mIXd (d : Int)
  | add_A_mIXd (d : Int)
  | adc_A_mIXd (d : Int)
  | sub_mIXd (d : Int)
  | sbc_A_mIXd (d : Int)
  | and_mIXd (d : Int)
  | xor_mIXd (d : Int)
  | or_mIXd (d : Int)
  | cp_mIXd (d : Int)
  -- DD CB layer (R114), with operands
  | rlc_mIXd (d : Int)
  | rrc_mIXd (d : Int)
  | rl_mIXd (d : Int)
  | rr_mIXd (d : Int)
  | sla_mIXd (d : Int)
  | sra_mIXd (d : Int)
  | sll_mIXd (d : Int)
  | srl_mIXd (d : Int)
  | bit_0_mIXd (d : Int)
  | bit_1_mIXd (d : Int)
  | bit_2_mIXd (d : Int)
  | bit_3_mIXd (d : Int)
  | bit_4_mIXd (d : Int)
  | bit_5_mIXd (d : Int)
  | bit_6_mIXd (d : Int)
  | bit_7_mIXd (d : Int)
  | res_0_mIXd (d : Int)
  | res_1_mIXd (d : Int)
  | res_2_mIXd (d : Int)
  | res_3_mIXd (d : Int)
  | res_4_mIXd (d : Int)
  | res_5_mIXd (d : Int)
  | res_6_mIXd (d : Int)
  | res_7_mIXd (d : Int)
  | set_0_mIXd (d : Int)
  | set_1_mIXd (d : Int)
  | set_2_mIXd (d : Int)
  | set_3_mIXd (d : Int)
  | set_4_mIXd (d : Int)
  | set_5_mIXd (d : Int)
  | set_6_mIXd (d : Int)
  | set_7_mIXd (d : Int)
  -- FD layer (R113), with operands
  | ld_IY_nn (nn : Word)
  | ld_mnn_IY (nn : Word)
  | ld_IYH_n (n : Byte)
  | ld_IY_mnn (nn : Word)
  | ld_IYL_n (n : Byte)
  | inc_mIYd (d : Int)
  | dec_mIYd (d : Int)
  | ld_mIYd_n (d : Int) (n : Byte)
  | ld_B_mIYd (d : Int)
  | ld_C_mIYd (d : Int)
  | ld_D_mIYd (d : Int)
  | ld_E_mIYd (d : Int)
  | ld_H_mIYd (d : Int)
  | ld_L_mIYd (d : Int)
  | ld_mIYd_B (d : Int)
  | ld_mIYd_C (d : Int)
  | ld_mIYd_D (d : Int)
  | ld_mIYd_E (d : Int)
  | ld_mIYd_H (d : Int)
  | ld_mIYd_L (d : Int)
  | ld_mIYd_A (d : Int)
  | ld_A_mIYd (d : Int)
  | add_A_mIYd (d : Int)
  | adc_A_mIYd (d : Int)
  | sub_mIYd (d : Int)
  | sbc_A_mIYd (d : Int)
  | and_mIYd (d : Int)
  | xor_mIYd (d : Int)
  | or_mIYd (d : Int)
  | cp_mIYd (d : Int)
  -- FD CB layer (R114), with operands
  | rlc_mIYd (d : Int)
  | rrc_mIYd (d : Int)
  | rl_mIYd (d : Int)
  | rr_mIYd (d : Int)
  | sla_mIYd (d : Int)
  | sra_mIYd (d : Int)
  | sll_mIYd (d : Int)
  | srl_mIYd (d : Int)
  | bit_0_mIYd (d : Int)
  | bit_1_mIYd (d : Int)
  | bit_2_mIYd (d : Int)
  | bit_3_mIYd (d : Int)
  | bit_4_mIYd (d : Int)
  | bit_5_mIYd (d : Int)
  | bit_6_mIYd (d : Int)
  | bit_7_mIYd (d : Int)
  | res_0_mIYd (d : Int)
  | res_1_mIYd (d : Int)
  | res_2_mIYd (d : Int)
  | res_3_mIYd (d : Int)
  | res_4_mIYd (d : Int)
  | res_5_mIYd (d : Int)
  | res_6_mIYd (d : Int)
  | res_7_mIYd (d : Int)
  | set_0_mIYd (d : Int)
  | set_1_mIYd (d : Int)
  | set_2_mIYd (d : Int)
  | set_3_mIYd (d : Int)
  | set_4_mIYd (d : Int)
  | set_5_mIYd (d : Int)
  | set_6_mIYd (d : Int)
  | set_7_mIYd (d : Int)
  -- Base layer (30_encoding.md R110), without operands
  | nop | ld_mBC_A | inc_BC | inc_B | dec_B | rlca | ex_AF_AF | add_HL_BC | ld_A_mBC | dec_BC | inc_C | dec_C | rrca
  | ld_mDE_A | inc_DE | inc_D | dec_D | rla | add_HL_DE | ld_A_mDE | dec_DE | inc_E | dec_E | rra | inc_HL | inc_H | dec_H
  | daa | add_HL_HL | dec_HL | inc_L | dec_L | cpl | inc_SP | inc_mHL | dec_mHL | scf | add_HL_SP | dec_SP | inc_A | dec_A
  | ccf | ld_B_B | ld_B_C | ld_B_D | ld_B_E | ld_B_H | ld_B_L | ld_B_mHL | ld_B_A | ld_C_B | ld_C_C | ld_C_D | ld_C_E
  | ld_C_H | ld_C_L | ld_C_mHL | ld_C_A | ld_D_B | ld_D_C | ld_D_D | ld_D_E | ld_D_H | ld_D_L | ld_D_mHL | ld_D_A | ld_E_B
  | ld_E_C | ld_E_D | ld_E_E | ld_E_H | ld_E_L | ld_E_mHL | ld_E_A | ld_H_B | ld_H_C | ld_H_D | ld_H_E | ld_H_H | ld_H_L
  | ld_H_mHL | ld_H_A | ld_L_B | ld_L_C | ld_L_D | ld_L_E | ld_L_H | ld_L_L | ld_L_mHL | ld_L_A | ld_mHL_B | ld_mHL_C
  | ld_mHL_D | ld_mHL_E | ld_mHL_H | ld_mHL_L | halt | ld_mHL_A | ld_A_B | ld_A_C | ld_A_D | ld_A_E | ld_A_H | ld_A_L
  | ld_A_mHL | ld_A_A | add_A_B | add_A_C | add_A_D | add_A_E | add_A_H | add_A_L | add_A_mHL | add_A_A | adc_A_B | adc_A_C
  | adc_A_D | adc_A_E | adc_A_H | adc_A_L | adc_A_mHL | adc_A_A | sub_B | sub_C | sub_D | sub_E | sub_H | sub_L | sub_mHL
  | sub_A | sbc_A_B | sbc_A_C | sbc_A_D | sbc_A_E | sbc_A_H | sbc_A_L | sbc_A_mHL | sbc_A_A | and_B | and_C | and_D | and_E
  | and_H | and_L | and_mHL | and_A | xor_B | xor_C | xor_D | xor_E | xor_H | xor_L | xor_mHL | xor_A | or_B | or_C | or_D
  | or_E | or_H | or_L | or_mHL | or_A | cp_B | cp_C | cp_D | cp_E | cp_H | cp_L | cp_mHL | cp_A | ret_NZ | pop_BC
  | push_BC | rst_00 | ret_Z | ret | rst_08 | ret_NC | pop_DE | push_DE | rst_10 | ret_C | exx | rst_18 | ret_PO | pop_HL
  | ex_mSP_HL | push_HL | rst_20 | ret_PE | jp_mHL | ex_DE_HL | rst_28 | ret_P | pop_AF | di | push_AF | rst_30 | ret_M
  | ld_SP_HL | ei | rst_38
  -- CB layer (R111), without operands
  | rlc_B | rlc_C | rlc_D | rlc_E | rlc_H | rlc_L | rlc_mHL | rlc_A | rrc_B | rrc_C | rrc_D | rrc_E | rrc_H | rrc_L
  | rrc_mHL | rrc_A | rl_B | rl_C | rl_D | rl_E | rl_H | rl_L | rl_mHL | rl_A | rr_B | rr_C | rr_D | rr_E | rr_H | rr_L
  | rr_mHL | rr_A | sla_B | sla_C | sla_D | sla_E | sla_H | sla_L | sla_mHL | sla_A | sra_B | sra_C | sra_D | sra_E | sra_H
  | sra_L | sra_mHL | sra_A | sll_B | sll_C | sll_D | sll_E | sll_H | sll_L | sll_mHL | sll_A | srl_B | srl_C | srl_D
  | srl_E | srl_H | srl_L | srl_mHL | srl_A | bit_0_B | bit_0_C | bit_0_D | bit_0_E | bit_0_H | bit_0_L | bit_0_mHL
  | bit_0_A | bit_1_B | bit_1_C | bit_1_D | bit_1_E | bit_1_H | bit_1_L | bit_1_mHL | bit_1_A | bit_2_B | bit_2_C | bit_2_D
  | bit_2_E | bit_2_H | bit_2_L | bit_2_mHL | bit_2_A | bit_3_B | bit_3_C | bit_3_D | bit_3_E | bit_3_H | bit_3_L
  | bit_3_mHL | bit_3_A | bit_4_B | bit_4_C | bit_4_D | bit_4_E | bit_4_H | bit_4_L | bit_4_mHL | bit_4_A | bit_5_B
  | bit_5_C | bit_5_D | bit_5_E | bit_5_H | bit_5_L | bit_5_mHL | bit_5_A | bit_6_B | bit_6_C | bit_6_D | bit_6_E | bit_6_H
  | bit_6_L | bit_6_mHL | bit_6_A | bit_7_B | bit_7_C | bit_7_D | bit_7_E | bit_7_H | bit_7_L | bit_7_mHL | bit_7_A
  | res_0_B | res_0_C | res_0_D | res_0_E | res_0_H | res_0_L | res_0_mHL | res_0_A | res_1_B | res_1_C | res_1_D | res_1_E
  | res_1_H | res_1_L | res_1_mHL | res_1_A | res_2_B | res_2_C | res_2_D | res_2_E | res_2_H | res_2_L | res_2_mHL
  | res_2_A | res_3_B | res_3_C | res_3_D | res_3_E | res_3_H | res_3_L | res_3_mHL | res_3_A | res_4_B | res_4_C | res_4_D
  | res_4_E | res_4_H | res_4_L | res_4_mHL | res_4_A | res_5_B | res_5_C | res_5_D | res_5_E | res_5_H | res_5_L
  | res_5_mHL | res_5_A | res_6_B | res_6_C | res_6_D | res_6_E | res_6_H | res_6_L | res_6_mHL | res_6_A | res_7_B
  | res_7_C | res_7_D | res_7_E | res_7_H | res_7_L | res_7_mHL | res_7_A | set_0_B | set_0_C | set_0_D | set_0_E | set_0_H
  | set_0_L | set_0_mHL | set_0_A | set_1_B | set_1_C | set_1_D | set_1_E | set_1_H | set_1_L | set_1_mHL | set_1_A
  | set_2_B | set_2_C | set_2_D | set_2_E | set_2_H | set_2_L | set_2_mHL | set_2_A | set_3_B | set_3_C | set_3_D | set_3_E
  | set_3_H | set_3_L | set_3_mHL | set_3_A | set_4_B | set_4_C | set_4_D | set_4_E | set_4_H | set_4_L | set_4_mHL
  | set_4_A | set_5_B | set_5_C | set_5_D | set_5_E | set_5_H | set_5_L | set_5_mHL | set_5_A | set_6_B | set_6_C | set_6_D
  | set_6_E | set_6_H | set_6_L | set_6_mHL | set_6_A | set_7_B | set_7_C | set_7_D | set_7_E | set_7_H | set_7_L
  | set_7_mHL | set_7_A
  -- ED layer (R112), without operands
  | in_B_mC | out_mC_B | sbc_HL_BC | neg | retn | im_0 | ld_I_A | in_C_mC | out_mC_C | adc_HL_BC | reti | ld_R_A | in_D_mC
  | out_mC_D | sbc_HL_DE | im_1 | ld_A_I | in_E_mC | out_mC_E | adc_HL_DE | im_2 | ld_A_R | in_H_mC | out_mC_H | sbc_HL_HL
  | rrd | in_L_mC | out_mC_L | adc_HL_HL | rld | sbc_HL_SP | in_A_mC | out_mC_A | adc_HL_SP | ldi | cpi | ini | outi | ldd
  | cpd | ind | outd | ldir | cpir | inir | otir | lddr | cpdr | indr | otdr
  -- DD layer (R113), without operands
  | add_IX_BC | add_IX_DE | inc_IX | inc_IXH | dec_IXH | add_IX_IX | dec_IX | inc_IXL | dec_IXL | add_IX_SP | ld_B_IXH
  | ld_B_IXL | ld_C_IXH | ld_C_IXL | ld_D_IXH | ld_D_IXL | ld_E_IXH | ld_E_IXL | ld_IXH_B | ld_IXH_C | ld_IXH_D | ld_IXH_E
  | ld_IXH_IXH | ld_IXH_IXL | ld_IXH_A | ld_IXL_B | ld_IXL_C | ld_IXL_D | ld_IXL_E | ld_IXL_IXH | ld_IXL_IXL | ld_IXL_A
  | ld_A_IXH | ld_A_IXL | add_A_IXH | add_A_IXL | adc_A_IXH | adc_A_IXL | sub_IXH | sub_IXL | sbc_A_IXH | sbc_A_IXL
  | and_IXH | and_IXL | xor_IXH | xor_IXL | or_IXH | or_IXL | cp_IXH | cp_IXL | pop_IX | ex_mSP_IX | push_IX | jp_mIX
  | ld_SP_IX
  -- FD layer (R113), without operands
  | add_IY_BC | add_IY_DE | inc_IY | inc_IYH | dec_IYH | add_IY_IY | dec_IY | inc_IYL | dec_IYL | add_IY_SP | ld_B_IYH
  | ld_B_IYL | ld_C_IYH | ld_C_IYL | ld_D_IYH | ld_D_IYL | ld_E_IYH | ld_E_IYL | ld_IYH_B | ld_IYH_C | ld_IYH_D | ld_IYH_E
  | ld_IYH_IYH | ld_IYH_IYL | ld_IYH_A | ld_IYL_B | ld_IYL_C | ld_IYL_D | ld_IYL_E | ld_IYL_IYH | ld_IYL_IYL | ld_IYL_A
  | ld_A_IYH | ld_A_IYL | add_A_IYH | add_A_IYL | adc_A_IYH | adc_A_IYL | sub_IYH | sub_IYL | sbc_A_IYH | sbc_A_IYL
  | and_IYH | and_IYL | xor_IYH | xor_IYL | or_IYH | or_IYL | cp_IYH | cp_IYL | pop_IY | ex_mSP_IY | push_IY | jp_mIY
  | ld_SP_IY
deriving DecidableEq, Repr

/-- The row of the opcode table that an instruction shape with its operands is (spec/opcode_table.json; the rules' own Encoding
lines). -/
def Form.instr (f : Form) : Instr :=
  match f with
  | .alu op src =>
    match op, src with
    | .ADD, .reg .B => .add_A_B
    | .ADD, .reg .C => .add_A_C
    | .ADD, .reg .D => .add_A_D
    | .ADD, .reg .E => .add_A_E
    | .ADD, .reg .H => .add_A_H
    | .ADD, .reg .L => .add_A_L
    | .ADD, .memHL => .add_A_mHL
    | .ADD, .reg .A => .add_A_A
    | .ADC, .reg .B => .adc_A_B
    | .ADC, .reg .C => .adc_A_C
    | .ADC, .reg .D => .adc_A_D
    | .ADC, .reg .E => .adc_A_E
    | .ADC, .reg .H => .adc_A_H
    | .ADC, .reg .L => .adc_A_L
    | .ADC, .memHL => .adc_A_mHL
    | .ADC, .reg .A => .adc_A_A
    | .SUB, .reg .B => .sub_B
    | .SUB, .reg .C => .sub_C
    | .SUB, .reg .D => .sub_D
    | .SUB, .reg .E => .sub_E
    | .SUB, .reg .H => .sub_H
    | .SUB, .reg .L => .sub_L
    | .SUB, .memHL => .sub_mHL
    | .SUB, .reg .A => .sub_A
    | .SBC, .reg .B => .sbc_A_B
    | .SBC, .reg .C => .sbc_A_C
    | .SBC, .reg .D => .sbc_A_D
    | .SBC, .reg .E => .sbc_A_E
    | .SBC, .reg .H => .sbc_A_H
    | .SBC, .reg .L => .sbc_A_L
    | .SBC, .memHL => .sbc_A_mHL
    | .SBC, .reg .A => .sbc_A_A
    | .AND, .reg .B => .and_B
    | .AND, .reg .C => .and_C
    | .AND, .reg .D => .and_D
    | .AND, .reg .E => .and_E
    | .AND, .reg .H => .and_H
    | .AND, .reg .L => .and_L
    | .AND, .memHL => .and_mHL
    | .AND, .reg .A => .and_A
    | .XOR, .reg .B => .xor_B
    | .XOR, .reg .C => .xor_C
    | .XOR, .reg .D => .xor_D
    | .XOR, .reg .E => .xor_E
    | .XOR, .reg .H => .xor_H
    | .XOR, .reg .L => .xor_L
    | .XOR, .memHL => .xor_mHL
    | .XOR, .reg .A => .xor_A
    | .OR, .reg .B => .or_B
    | .OR, .reg .C => .or_C
    | .OR, .reg .D => .or_D
    | .OR, .reg .E => .or_E
    | .OR, .reg .H => .or_H
    | .OR, .reg .L => .or_L
    | .OR, .memHL => .or_mHL
    | .OR, .reg .A => .or_A
    | .CP, .reg .B => .cp_B
    | .CP, .reg .C => .cp_C
    | .CP, .reg .D => .cp_D
    | .CP, .reg .E => .cp_E
    | .CP, .reg .H => .cp_H
    | .CP, .reg .L => .cp_L
    | .CP, .memHL => .cp_mHL
    | .CP, .reg .A => .cp_A
    | .ADD, .imm n => .add_A_n n
    | .ADC, .imm n => .adc_A_n n
    | .SUB, .imm n => .sub_n n
    | .SBC, .imm n => .sbc_A_n n
    | .AND, .imm n => .and_n n
    | .XOR, .imm n => .xor_n n
    | .OR, .imm n => .or_n n
    | .CP, .imm n => .cp_n n
    | .ADD, .half .IX .H => .add_A_IXH
    | .ADD, .half .IX .L => .add_A_IXL
    | .ADD, .memIdx .IX d => .add_A_mIXd d
    | .ADC, .half .IX .H => .adc_A_IXH
    | .ADC, .half .IX .L => .adc_A_IXL
    | .ADC, .memIdx .IX d => .adc_A_mIXd d
    | .SUB, .half .IX .H => .sub_IXH
    | .SUB, .half .IX .L => .sub_IXL
    | .SUB, .memIdx .IX d => .sub_mIXd d
    | .SBC, .half .IX .H => .sbc_A_IXH
    | .SBC, .half .IX .L => .sbc_A_IXL
    | .SBC, .memIdx .IX d => .sbc_A_mIXd d
    | .AND, .half .IX .H => .and_IXH
    | .AND, .half .IX .L => .and_IXL
    | .AND, .memIdx .IX d => .and_mIXd d
    | .XOR, .half .IX .H => .xor_IXH
    | .XOR, .half .IX .L => .xor_IXL
    | .XOR, .memIdx .IX d => .xor_mIXd d
    | .OR, .half .IX .H => .or_IXH
    | .OR, .half .IX .L => .or_IXL
    | .OR, .memIdx .IX d => .or_mIXd d
    | .CP, .half .IX .H => .cp_IXH
    | .CP, .half .IX .L => .cp_IXL
    | .CP, .memIdx .IX d => .cp_mIXd d
    | .ADD, .half .IY .H => .add_A_IYH
    | .ADD, .half .IY .L => .add_A_IYL
    | .ADD, .memIdx .IY d => .add_A_mIYd d
    | .ADC, .half .IY .H => .adc_A_IYH
    | .ADC, .half .IY .L => .adc_A_IYL
    | .ADC, .memIdx .IY d => .adc_A_mIYd d
    | .SUB, .half .IY .H => .sub_IYH
    | .SUB, .half .IY .L => .sub_IYL
    | .SUB, .memIdx .IY d => .sub_mIYd d
    | .SBC, .half .IY .H => .sbc_A_IYH
    | .SBC, .half .IY .L => .sbc_A_IYL
    | .SBC, .memIdx .IY d => .sbc_A_mIYd d
    | .AND, .half .IY .H => .and_IYH
    | .AND, .half .IY .L => .and_IYL
    | .AND, .memIdx .IY d => .and_mIYd d
    | .XOR, .half .IY .H => .xor_IYH
    | .XOR, .half .IY .L => .xor_IYL
    | .XOR, .memIdx .IY d => .xor_mIYd d
    | .OR, .half .IY .H => .or_IYH
    | .OR, .half .IY .L => .or_IYL
    | .OR, .memIdx .IY d => .or_mIYd d
    | .CP, .half .IY .H => .cp_IYH
    | .CP, .half .IY .L => .cp_IYL
    | .CP, .memIdx .IY d => .cp_mIYd d
  | .incM m =>
    match m with
    | .reg .B => .inc_B
    | .reg .C => .inc_C
    | .reg .D => .inc_D
    | .reg .E => .inc_E
    | .reg .H => .inc_H
    | .reg .L => .inc_L
    | .memHL => .inc_mHL
    | .reg .A => .inc_A
    | .half .IX .H => .inc_IXH
    | .half .IX .L => .inc_IXL
    | .memIdx .IX d => .inc_mIXd d
    | .half .IY .H => .inc_IYH
    | .half .IY .L => .inc_IYL
    | .memIdx .IY d => .inc_mIYd d
  | .decM m =>
    match m with
    | .reg .B => .dec_B
    | .reg .C => .dec_C
    | .reg .D => .dec_D
    | .reg .E => .dec_E
    | .reg .H => .dec_H
    | .reg .L => .dec_L
    | .memHL => .dec_mHL
    | .reg .A => .dec_A
    | .half .IX .H => .dec_IXH
    | .half .IX .L => .dec_IXL
    | .memIdx .IX d => .dec_mIXd d
    | .half .IY .H => .dec_IYH
    | .half .IY .L => .dec_IYL
    | .memIdx .IY d => .dec_mIYd d
  | .daa => .daa
  | .cpl => .cpl
  | .neg => .neg
  | .ccf => .ccf
  | .scf => .scf
  | .add16 dst src =>
    match dst, src with
    | .HL, .BC => .add_HL_BC
    | .HL, .DE => .add_HL_DE
    | .HL, .HL => .add_HL_HL
    | .HL, .SP => .add_HL_SP
    | .IX, .BC => .add_IX_BC
    | .IX, .DE => .add_IX_DE
    | .IX, .HL => .add_IX_IX
    | .IX, .SP => .add_IX_SP
    | .IY, .BC => .add_IY_BC
    | .IY, .DE => .add_IY_DE
    | .IY, .HL => .add_IY_IY
    | .IY, .SP => .add_IY_SP
  | .adc16 src =>
    match src with
    | .BC => .adc_HL_BC
    | .DE => .adc_HL_DE
    | .HL => .adc_HL_HL
    | .SP => .adc_HL_SP
  | .sbc16 src =>
    match src with
    | .BC => .sbc_HL_BC
    | .DE => .sbc_HL_DE
    | .HL => .sbc_HL_HL
    | .SP => .sbc_HL_SP
  | .inc16 rr =>
    match rr with
    | .BC => .inc_BC
    | .DE => .inc_DE
    | .HL => .inc_HL
    | .SP => .inc_SP
    | .IX => .inc_IX
    | .IY => .inc_IY
  | .dec16 rr =>
    match rr with
    | .BC => .dec_BC
    | .DE => .dec_DE
    | .HL => .dec_HL
    | .SP => .dec_SP
    | .IX => .dec_IX
    | .IY => .dec_IY
  | .rlca => .rlca
  | .rrca => .rrca
  | .rla => .rla
  | .rra => .rra
  | .rot op m =>
    match op, m with
    | .RLC, .reg .B => .rlc_B
    | .RLC, .reg .C => .rlc_C
    | .RLC, .reg .D => .rlc_D
    | .RLC, .reg .E => .rlc_E
    | .RLC, .reg .H => .rlc_H
    | .RLC, .reg .L => .rlc_L
    | .RLC, .memHL => .rlc_mHL
    | .RLC, .reg .A => .rlc_A
    | .RRC, .reg .B => .rrc_B
    | .RRC, .reg .C => .rrc_C
    | .RRC, .reg .D => .rrc_D
    | .RRC, .reg .E => .rrc_E
    | .RRC, .reg .H => .rrc_H
    | .RRC, .reg .L => .rrc_L
    | .RRC, .memHL => .rrc_mHL
    | .RRC, .reg .A => .rrc_A
    | .RL, .reg .B => .rl_B
    | .RL, .reg .C => .rl_C
    | .RL, .reg .D => .rl_D
    | .RL, .reg .E => .rl_E
    | .RL, .reg .H => .rl_H
    | .RL, .reg .L => .rl_L
    | .RL, .memHL => .rl_mHL
    | .RL, .reg .A => .rl_A
    | .RR, .reg .B => .rr_B
    | .RR, .reg .C => .rr_C
    | .RR, .reg .D => .rr_D
    | .RR, .reg .E => .rr_E
    | .RR, .reg .H => .rr_H
    | .RR, .reg .L => .rr_L
    | .RR, .memHL => .rr_mHL
    | .RR, .reg .A => .rr_A
    | .SLA, .reg .B => .sla_B
    | .SLA, .reg .C => .sla_C
    | .SLA, .reg .D => .sla_D
    | .SLA, .reg .E => .sla_E
    | .SLA, .reg .H => .sla_H
    | .SLA, .reg .L => .sla_L
    | .SLA, .memHL => .sla_mHL
    | .SLA, .reg .A => .sla_A
    | .SRA, .reg .B => .sra_B
    | .SRA, .reg .C => .sra_C
    | .SRA, .reg .D => .sra_D
    | .SRA, .reg .E => .sra_E
    | .SRA, .reg .H => .sra_H
    | .SRA, .reg .L => .sra_L
    | .SRA, .memHL => .sra_mHL
    | .SRA, .reg .A => .sra_A
    | .SLL, .reg .B => .sll_B
    | .SLL, .reg .C => .sll_C
    | .SLL, .reg .D => .sll_D
    | .SLL, .reg .E => .sll_E
    | .SLL, .reg .H => .sll_H
    | .SLL, .reg .L => .sll_L
    | .SLL, .memHL => .sll_mHL
    | .SLL, .reg .A => .sll_A
    | .SRL, .reg .B => .srl_B
    | .SRL, .reg .C => .srl_C
    | .SRL, .reg .D => .srl_D
    | .SRL, .reg .E => .srl_E
    | .SRL, .reg .H => .srl_H
    | .SRL, .reg .L => .srl_L
    | .SRL, .memHL => .srl_mHL
    | .SRL, .reg .A => .srl_A
    | .RLC, .memIdx .IX d => .rlc_mIXd d
    | .RRC, .memIdx .IX d => .rrc_mIXd d
    | .RL, .memIdx .IX d => .rl_mIXd d
    | .RR, .memIdx .IX d => .rr_mIXd d
    | .SLA, .memIdx .IX d => .sla_mIXd d
    | .SRA, .memIdx .IX d => .sra_mIXd d
    | .SLL, .memIdx .IX d => .sll_mIXd d
    | .SRL, .memIdx .IX d => .srl_mIXd d
    | .RLC, .memIdx .IY d => .rlc_mIYd d
    | .RRC, .memIdx .IY d => .rrc_mIYd d
    | .RL, .memIdx .IY d => .rl_mIYd d
    | .RR, .memIdx .IY d => .rr_mIYd d
    | .SLA, .memIdx .IY d => .sla_mIYd d
    | .SRA, .memIdx .IY d => .sra_mIYd d
    | .SLL, .memIdx .IY d => .sll_mIYd d
    | .SRL, .memIdx .IY d => .srl_mIYd d
  | .rld => .rld
  | .rrd => .rrd
  | .bit b m =>
    match b, m with
    | 0, .reg .B => .bit_0_B
    | 0, .reg .C => .bit_0_C
    | 0, .reg .D => .bit_0_D
    | 0, .reg .E => .bit_0_E
    | 0, .reg .H => .bit_0_H
    | 0, .reg .L => .bit_0_L
    | 0, .memHL => .bit_0_mHL
    | 0, .reg .A => .bit_0_A
    | 1, .reg .B => .bit_1_B
    | 1, .reg .C => .bit_1_C
    | 1, .reg .D => .bit_1_D
    | 1, .reg .E => .bit_1_E
    | 1, .reg .H => .bit_1_H
    | 1, .reg .L => .bit_1_L
    | 1, .memHL => .bit_1_mHL
    | 1, .reg .A => .bit_1_A
    | 2, .reg .B => .bit_2_B
    | 2, .reg .C => .bit_2_C
    | 2, .reg .D => .bit_2_D
    | 2, .reg .E => .bit_2_E
    | 2, .reg .H => .bit_2_H
    | 2, .reg .L => .bit_2_L
    | 2, .memHL => .bit_2_mHL
    | 2, .reg .A => .bit_2_A
    | 3, .reg .B => .bit_3_B
    | 3, .reg .C => .bit_3_C
    | 3, .reg .D => .bit_3_D
    | 3, .reg .E => .bit_3_E
    | 3, .reg .H => .bit_3_H
    | 3, .reg .L => .bit_3_L
    | 3, .memHL => .bit_3_mHL
    | 3, .reg .A => .bit_3_A
    | 4, .reg .B => .bit_4_B
    | 4, .reg .C => .bit_4_C
    | 4, .reg .D => .bit_4_D
    | 4, .reg .E => .bit_4_E
    | 4, .reg .H => .bit_4_H
    | 4, .reg .L => .bit_4_L
    | 4, .memHL => .bit_4_mHL
    | 4, .reg .A => .bit_4_A
    | 5, .reg .B => .bit_5_B
    | 5, .reg .C => .bit_5_C
    | 5, .reg .D => .bit_5_D
    | 5, .reg .E => .bit_5_E
    | 5, .reg .H => .bit_5_H
    | 5, .reg .L => .bit_5_L
    | 5, .memHL => .bit_5_mHL
    | 5, .reg .A => .bit_5_A
    | 6, .reg .B => .bit_6_B
    | 6, .reg .C => .bit_6_C
    | 6, .reg .D => .bit_6_D
    | 6, .reg .E => .bit_6_E
    | 6, .reg .H => .bit_6_H
    | 6, .reg .L => .bit_6_L
    | 6, .memHL => .bit_6_mHL
    | 6, .reg .A => .bit_6_A
    | 7, .reg .B => .bit_7_B
    | 7, .reg .C => .bit_7_C
    | 7, .reg .D => .bit_7_D
    | 7, .reg .E => .bit_7_E
    | 7, .reg .H => .bit_7_H
    | 7, .reg .L => .bit_7_L
    | 7, .memHL => .bit_7_mHL
    | 7, .reg .A => .bit_7_A
    | 0, .memIdx .IX d => .bit_0_mIXd d
    | 1, .memIdx .IX d => .bit_1_mIXd d
    | 2, .memIdx .IX d => .bit_2_mIXd d
    | 3, .memIdx .IX d => .bit_3_mIXd d
    | 4, .memIdx .IX d => .bit_4_mIXd d
    | 5, .memIdx .IX d => .bit_5_mIXd d
    | 6, .memIdx .IX d => .bit_6_mIXd d
    | 7, .memIdx .IX d => .bit_7_mIXd d
    | 0, .memIdx .IY d => .bit_0_mIYd d
    | 1, .memIdx .IY d => .bit_1_mIYd d
    | 2, .memIdx .IY d => .bit_2_mIYd d
    | 3, .memIdx .IY d => .bit_3_mIYd d
    | 4, .memIdx .IY d => .bit_4_mIYd d
    | 5, .memIdx .IY d => .bit_5_mIYd d
    | 6, .memIdx .IY d => .bit_6_mIYd d
    | 7, .memIdx .IY d => .bit_7_mIYd d
  | .set b m =>
    match b, m with
    | 0, .reg .B => .set_0_B
    | 0, .reg .C => .set_0_C
    | 0, .reg .D => .set_0_D
    | 0, .reg .E => .set_0_E
    | 0, .reg .H => .set_0_H
    | 0, .reg .L => .set_0_L
    | 0, .memHL => .set_0_mHL
    | 0, .reg .A => .set_0_A
    | 1, .reg .B => .set_1_B
    | 1, .reg .C => .set_1_C
    | 1, .reg .D => .set_1_D
    | 1, .reg .E => .set_1_E
    | 1, .reg .H => .set_1_H
    | 1, .reg .L => .set_1_L
    | 1, .memHL => .set_1_mHL
    | 1, .reg .A => .set_1_A
    | 2, .reg .B => .set_2_B
    | 2, .reg .C => .set_2_C
    | 2, .reg .D => .set_2_D
    | 2, .reg .E => .set_2_E
    | 2, .reg .H => .set_2_H
    | 2, .reg .L => .set_2_L
    | 2, .memHL => .set_2_mHL
    | 2, .reg .A => .set_2_A
    | 3, .reg .B => .set_3_B
    | 3, .reg .C => .set_3_C
    | 3, .reg .D => .set_3_D
    | 3, .reg .E => .set_3_E
    | 3, .reg .H => .set_3_H
    | 3, .reg .L => .set_3_L
    | 3, .memHL => .set_3_mHL
    | 3, .reg .A => .set_3_A
    | 4, .reg .B => .set_4_B
    | 4, .reg .C => .set_4_C
    | 4, .reg .D => .set_4_D
    | 4, .reg .E => .set_4_E
    | 4, .reg .H => .set_4_H
    | 4, .reg .L => .set_4_L
    | 4, .memHL => .set_4_mHL
    | 4, .reg .A => .set_4_A
    | 5, .reg .B => .set_5_B
    | 5, .reg .C => .set_5_C
    | 5, .reg .D => .set_5_D
    | 5, .reg .E => .set_5_E
    | 5, .reg .H => .set_5_H
    | 5, .reg .L => .set_5_L
    | 5, .memHL => .set_5_mHL
    | 5, .reg .A => .set_5_A
    | 6, .reg .B => .set_6_B
    | 6, .reg .C => .set_6_C
    | 6, .reg .D => .set_6_D
    | 6, .reg .E => .set_6_E
    | 6, .reg .H => .set_6_H
    | 6, .reg .L => .set_6_L
    | 6, .memHL => .set_6_mHL
    | 6, .reg .A => .set_6_A
    | 7, .reg .B => .set_7_B
    | 7, .reg .C => .set_7_C
    | 7, .reg .D => .set_7_D
    | 7, .reg .E => .set_7_E
    | 7, .reg .H => .set_7_H
    | 7, .reg .L => .set_7_L
    | 7, .memHL => .set_7_mHL
    | 7, .reg .A => .set_7_A
    | 0, .memIdx .IX d => .set_0_mIXd d
    | 1, .memIdx .IX d => .set_1_mIXd d
    | 2, .memIdx .IX d => .set_2_mIXd d
    | 3, .memIdx .IX d => .set_3_mIXd d
    | 4, .memIdx .IX d => .set_4_mIXd d
    | 5, .memIdx .IX d => .set_5_mIXd d
    | 6, .memIdx .IX d => .set_6_mIXd d
    | 7, .memIdx .IX d => .set_7_mIXd d
    | 0, .memIdx .IY d => .set_0_mIYd d
    | 1, .memIdx .IY d => .set_1_mIYd d
    | 2, .memIdx .IY d => .set_2_mIYd d
    | 3, .memIdx .IY d => .set_3_mIYd d
    | 4, .memIdx .IY d => .set_4_mIYd d
    | 5, .memIdx .IY d => .set_5_mIYd d
    | 6, .memIdx .IY d => .set_6_mIYd d
    | 7, .memIdx .IY d => .set_7_mIYd d
  | .res b m =>
    match b, m with
    | 0, .reg .B => .res_0_B
    | 0, .reg .C => .res_0_C
    | 0, .reg .D => .res_0_D
    | 0, .reg .E => .res_0_E
    | 0, .reg .H => .res_0_H
    | 0, .reg .L => .res_0_L
    | 0, .memHL => .res_0_mHL
    | 0, .reg .A => .res_0_A
    | 1, .reg .B => .res_1_B
    | 1, .reg .C => .res_1_C
    | 1, .reg .D => .res_1_D
    | 1, .reg .E => .res_1_E
    | 1, .reg .H => .res_1_H
    | 1, .reg .L => .res_1_L
    | 1, .memHL => .res_1_mHL
    | 1, .reg .A => .res_1_A
    | 2, .reg .B => .res_2_B
    | 2, .reg .C => .res_2_C
    | 2, .reg .D => .res_2_D
    | 2, .reg .E => .res_2_E
    | 2, .reg .H => .res_2_H
    | 2, .reg .L => .res_2_L
    | 2, .memHL => .res_2_mHL
    | 2, .reg .A => .res_2_A
    | 3, .reg .B => .res_3_B
    | 3, .reg .C => .res_3_C
    | 3, .reg .D => .res_3_D
    | 3, .reg .E => .res_3_E
    | 3, .reg .H => .res_3_H
    | 3, .reg .L => .res_3_L
    | 3, .memHL => .res_3_mHL
    | 3, .reg .A => .res_3_A
    | 4, .reg .B => .res_4_B
    | 4, .reg .C => .res_4_C
    | 4, .reg .D => .res_4_D
    | 4, .reg .E => .res_4_E
    | 4, .reg .H => .res_4_H
    | 4, .reg .L => .res_4_L
    | 4, .memHL => .res_4_mHL
    | 4, .reg .A => .res_4_A
    | 5, .reg .B => .res_5_B
    | 5, .reg .C => .res_5_C
    | 5, .reg .D => .res_5_D
    | 5, .reg .E => .res_5_E
    | 5, .reg .H => .res_5_H
    | 5, .reg .L => .res_5_L
    | 5, .memHL => .res_5_mHL
    | 5, .reg .A => .res_5_A
    | 6, .reg .B => .res_6_B
    | 6, .reg .C => .res_6_C
    | 6, .reg .D => .res_6_D
    | 6, .reg .E => .res_6_E
    | 6, .reg .H => .res_6_H
    | 6, .reg .L => .res_6_L
    | 6, .memHL => .res_6_mHL
    | 6, .reg .A => .res_6_A
    | 7, .reg .B => .res_7_B
    | 7, .reg .C => .res_7_C
    | 7, .reg .D => .res_7_D
    | 7, .reg .E => .res_7_E
    | 7, .reg .H => .res_7_H
    | 7, .reg .L => .res_7_L
    | 7, .memHL => .res_7_mHL
    | 7, .reg .A => .res_7_A
    | 0, .memIdx .IX d => .res_0_mIXd d
    | 1, .memIdx .IX d => .res_1_mIXd d
    | 2, .memIdx .IX d => .res_2_mIXd d
    | 3, .memIdx .IX d => .res_3_mIXd d
    | 4, .memIdx .IX d => .res_4_mIXd d
    | 5, .memIdx .IX d => .res_5_mIXd d
    | 6, .memIdx .IX d => .res_6_mIXd d
    | 7, .memIdx .IX d => .res_7_mIXd d
    | 0, .memIdx .IY d => .res_0_mIYd d
    | 1, .memIdx .IY d => .res_1_mIYd d
    | 2, .memIdx .IY d => .res_2_mIYd d
    | 3, .memIdx .IY d => .res_3_mIYd d
    | 4, .memIdx .IY d => .res_4_mIYd d
    | 5, .memIdx .IY d => .res_5_mIYd d
    | 6, .memIdx .IY d => .res_6_mIYd d
    | 7, .memIdx .IY d => .res_7_mIYd d
  | .ldi => .ldi
  | .ldd => .ldd
  | .ldir => .ldir
  | .lddr => .lddr
  | .cpi => .cpi
  | .cpd => .cpd
  | .cpir => .cpir
  | .cpdr => .cpdr
  | .ini => .ini
  | .ind => .ind
  | .inir => .inir
  | .indr => .indr
  | .outi => .outi
  | .outd => .outd
  | .otir => .otir
  | .otdr => .otdr
  | .ldRegReg dst src =>
    match dst, src with
    | .B, .B => .ld_B_B
    | .B, .C => .ld_B_C
    | .B, .D => .ld_B_D
    | .B, .E => .ld_B_E
    | .B, .H => .ld_B_H
    | .B, .L => .ld_B_L
    | .B, .A => .ld_B_A
    | .C, .B => .ld_C_B
    | .C, .C => .ld_C_C
    | .C, .D => .ld_C_D
    | .C, .E => .ld_C_E
    | .C, .H => .ld_C_H
    | .C, .L => .ld_C_L
    | .C, .A => .ld_C_A
    | .D, .B => .ld_D_B
    | .D, .C => .ld_D_C
    | .D, .D => .ld_D_D
    | .D, .E => .ld_D_E
    | .D, .H => .ld_D_H
    | .D, .L => .ld_D_L
    | .D, .A => .ld_D_A
    | .E, .B => .ld_E_B
    | .E, .C => .ld_E_C
    | .E, .D => .ld_E_D
    | .E, .E => .ld_E_E
    | .E, .H => .ld_E_H
    | .E, .L => .ld_E_L
    | .E, .A => .ld_E_A
    | .H, .B => .ld_H_B
    | .H, .C => .ld_H_C
    | .H, .D => .ld_H_D
    | .H, .E => .ld_H_E
    | .H, .H => .ld_H_H
    | .H, .L => .ld_H_L
    | .H, .A => .ld_H_A
    | .L, .B => .ld_L_B
    | .L, .C => .ld_L_C
    | .L, .D => .ld_L_D
    | .L, .E => .ld_L_E
    | .L, .H => .ld_L_H
    | .L, .L => .ld_L_L
    | .L, .A => .ld_L_A
    | .A, .B => .ld_A_B
    | .A, .C => .ld_A_C
    | .A, .D => .ld_A_D
    | .A, .E => .ld_A_E
    | .A, .H => .ld_A_H
    | .A, .L => .ld_A_L
    | .A, .A => .ld_A_A
  | .ldRegImm r n =>
    match r with
    | .B => .ld_B_n n
    | .C => .ld_C_n n
    | .D => .ld_D_n n
    | .E => .ld_E_n n
    | .H => .ld_H_n n
    | .L => .ld_L_n n
    | .A => .ld_A_n n
  | .ldRegHL r =>
    match r with
    | .B => .ld_B_mHL
    | .C => .ld_C_mHL
    | .D => .ld_D_mHL
    | .E => .ld_E_mHL
    | .H => .ld_H_mHL
    | .L => .ld_L_mHL
    | .A => .ld_A_mHL
  | .ldRegIdx r x d =>
    match r, x with
    | .B, .IX => .ld_B_mIXd d
    | .C, .IX => .ld_C_mIXd d
    | .D, .IX => .ld_D_mIXd d
    | .E, .IX => .ld_E_mIXd d
    | .H, .IX => .ld_H_mIXd d
    | .L, .IX => .ld_L_mIXd d
    | .A, .IX => .ld_A_mIXd d
    | .B, .IY => .ld_B_mIYd d
    | .C, .IY => .ld_C_mIYd d
    | .D, .IY => .ld_D_mIYd d
    | .E, .IY => .ld_E_mIYd d
    | .H, .IY => .ld_H_mIYd d
    | .L, .IY => .ld_L_mIYd d
    | .A, .IY => .ld_A_mIYd d
  | .ldHLReg r =>
    match r with
    | .B => .ld_mHL_B
    | .C => .ld_mHL_C
    | .D => .ld_mHL_D
    | .E => .ld_mHL_E
    | .H => .ld_mHL_H
    | .L => .ld_mHL_L
    | .A => .ld_mHL_A
  | .ldIdxReg x d r =>
    match x, r with
    | .IX, .B => .ld_mIXd_B d
    | .IX, .C => .ld_mIXd_C d
    | .IX, .D => .ld_mIXd_D d
    | .IX, .E => .ld_mIXd_E d
    | .IX, .H => .ld_mIXd_H d
    | .IX, .L => .ld_mIXd_L d
    | .IX, .A => .ld_mIXd_A d
    | .IY, .B => .ld_mIYd_B d
    | .IY, .C => .ld_mIYd_C d
    | .IY, .D => .ld_mIYd_D d
    | .IY, .E => .ld_mIYd_E d
    | .IY, .H => .ld_mIYd_H d
    | .IY, .L => .ld_mIYd_L d
    | .IY, .A => .ld_mIYd_A d
  | .ldHLImm n => .ld_mHL_n n
  | .ldIdxImm x d n =>
    match x with
    | .IX => .ld_mIXd_n d n
    | .IY => .ld_mIYd_n d n
  | .ldAPair p =>
    match p with
    | .BC => .ld_A_mBC
    | .DE => .ld_A_mDE
  | .ldAMem nn => .ld_A_mnn nn
  | .ldPairA p =>
    match p with
    | .BC => .ld_mBC_A
    | .DE => .ld_mDE_A
  | .ldMemA nn => .ld_mnn_A nn
  | .ldRegHalf r x h =>
    match r, x, h with
    | .B, .IX, .H => .ld_B_IXH
    | .B, .IX, .L => .ld_B_IXL
    | .C, .IX, .H => .ld_C_IXH
    | .C, .IX, .L => .ld_C_IXL
    | .D, .IX, .H => .ld_D_IXH
    | .D, .IX, .L => .ld_D_IXL
    | .E, .IX, .H => .ld_E_IXH
    | .E, .IX, .L => .ld_E_IXL
    | .A, .IX, .H => .ld_A_IXH
    | .A, .IX, .L => .ld_A_IXL
    | .B, .IY, .H => .ld_B_IYH
    | .B, .IY, .L => .ld_B_IYL
    | .C, .IY, .H => .ld_C_IYH
    | .C, .IY, .L => .ld_C_IYL
    | .D, .IY, .H => .ld_D_IYH
    | .D, .IY, .L => .ld_D_IYL
    | .E, .IY, .H => .ld_E_IYH
    | .E, .IY, .L => .ld_E_IYL
    | .A, .IY, .H => .ld_A_IYH
    | .A, .IY, .L => .ld_A_IYL
  | .ldHalfReg x h r =>
    match x, h, r with
    | .IX, .H, .B => .ld_IXH_B
    | .IX, .H, .C => .ld_IXH_C
    | .IX, .H, .D => .ld_IXH_D
    | .IX, .H, .E => .ld_IXH_E
    | .IX, .H, .A => .ld_IXH_A
    | .IX, .L, .B => .ld_IXL_B
    | .IX, .L, .C => .ld_IXL_C
    | .IX, .L, .D => .ld_IXL_D
    | .IX, .L, .E => .ld_IXL_E
    | .IX, .L, .A => .ld_IXL_A
    | .IY, .H, .B => .ld_IYH_B
    | .IY, .H, .C => .ld_IYH_C
    | .IY, .H, .D => .ld_IYH_D
    | .IY, .H, .E => .ld_IYH_E
    | .IY, .H, .A => .ld_IYH_A
    | .IY, .L, .B => .ld_IYL_B
    | .IY, .L, .C => .ld_IYL_C
    | .IY, .L, .D => .ld_IYL_D
    | .IY, .L, .E => .ld_IYL_E
    | .IY, .L, .A => .ld_IYL_A
  | .ldHalfHalf x dst src =>
    match x, dst, src with
    | .IX, .H, .H => .ld_IXH_IXH
    | .IX, .H, .L => .ld_IXH_IXL
    | .IX, .L, .H => .ld_IXL_IXH
    | .IX, .L, .L => .ld_IXL_IXL
    | .IY, .H, .H => .ld_IYH_IYH
    | .IY, .H, .L => .ld_IYH_IYL
    | .IY, .L, .H => .ld_IYL_IYH
    | .IY, .L, .L => .ld_IYL_IYL
  | .ldHalfImm x h n =>
    match x, h with
    | .IX, .H => .ld_IXH_n n
    | .IX, .L => .ld_IXL_n n
    | .IY, .H => .ld_IYH_n n
    | .IY, .L => .ld_IYL_n n
  | .ldAI => .ld_A_I
  | .ldAR => .ld_A_R
  | .ldIA => .ld_I_A
  | .ldRA => .ld_R_A
  | .ldRrImm rr nn =>
    match rr with
    | .BC => .ld_BC_nn nn
    | .DE => .ld_DE_nn nn
    | .HL => .ld_HL_nn nn
    | .SP => .ld_SP_nn nn
    | .IX => .ld_IX_nn nn
    | .IY => .ld_IY_nn nn
  | .ldHLMem nn => .ld_HL_mnn nn
  | .ldRpMem p nn =>
    match p with
    | .BC => .ld_BC_mnn nn
    | .DE => .ld_DE_mnn nn
    | .HL => .ld_HL_mnn_ed nn
    | .SP => .ld_SP_mnn nn
  | .ldIdxMem x nn =>
    match x with
    | .IX => .ld_IX_mnn nn
    | .IY => .ld_IY_mnn nn
  | .stHLMem nn => .ld_mnn_HL nn
  | .stRpMem p nn =>
    match p with
    | .BC => .ld_mnn_BC nn
    | .DE => .ld_mnn_DE nn
    | .HL => .ld_mnn_HL_ed nn
    | .SP => .ld_mnn_SP nn
  | .stIdxMem x nn =>
    match x with
    | .IX => .ld_mnn_IX nn
    | .IY => .ld_mnn_IY nn
  | .ldSP xx =>
    match xx with
    | .HL => .ld_SP_HL
    | .IX => .ld_SP_IX
    | .IY => .ld_SP_IY
  | .exDEHL => .ex_DE_HL
  | .exAF => .ex_AF_AF
  | .exx => .exx
  | .exSP xx =>
    match xx with
    | .HL => .ex_mSP_HL
    | .IX => .ex_mSP_IX
    | .IY => .ex_mSP_IY
  | .push q =>
    match q with
    | .BC => .push_BC
    | .DE => .push_DE
    | .HL => .push_HL
    | .AF => .push_AF
    | .IX => .push_IX
    | .IY => .push_IY
  | .pop q =>
    match q with
    | .BC => .pop_BC
    | .DE => .pop_DE
    | .HL => .pop_HL
    | .AF => .pop_AF
    | .IX => .pop_IX
    | .IY => .pop_IY
  | .jp nn => .jp_nn nn
  | .jpCc c nn =>
    match c with
    | .NZ => .jp_NZ_nn nn
    | .Z => .jp_Z_nn nn
    | .NC => .jp_NC_nn nn
    | .C => .jp_C_nn nn
    | .PO => .jp_PO_nn nn
    | .PE => .jp_PE_nn nn
    | .P => .jp_P_nn nn
    | .M => .jp_M_nn nn
  | .jr e => .jr_e e
  | .jrCc c e =>
    match c with
    | .NZ => .jr_NZ_e e
    | .Z => .jr_Z_e e
    | .NC => .jr_NC_e e
    | .C => .jr_C_e e
  | .jpReg xx =>
    match xx with
    | .HL => .jp_mHL
    | .IX => .jp_mIX
    | .IY => .jp_mIY
  | .djnz e => .djnz_e e
  | .call nn => .call_nn nn
  | .callCc c nn =>
    match c with
    | .NZ => .call_NZ_nn nn
    | .Z => .call_Z_nn nn
    | .NC => .call_NC_nn nn
    | .C => .call_C_nn nn
    | .PO => .call_PO_nn nn
    | .PE => .call_PE_nn nn
    | .P => .call_P_nn nn
    | .M => .call_M_nn nn
  | .ret => .ret
  | .retCc c =>
    match c with
    | .NZ => .ret_NZ
    | .Z => .ret_Z
    | .NC => .ret_NC
    | .C => .ret_C
    | .PO => .ret_PO
    | .PE => .ret_PE
    | .P => .ret_P
    | .M => .ret_M
  | .reti => .reti
  | .retn => .retn
  | .rst y =>
    match y with
    | 0 => .rst_00
    | 1 => .rst_08
    | 2 => .rst_10
    | 3 => .rst_18
    | 4 => .rst_20
    | 5 => .rst_28
    | 6 => .rst_30
    | 7 => .rst_38
  | .inReg r =>
    match r with
    | .B => .in_B_mC
    | .C => .in_C_mC
    | .D => .in_D_mC
    | .E => .in_E_mC
    | .H => .in_H_mC
    | .L => .in_L_mC
    | .A => .in_A_mC
  | .inA n => .in_A_mn n
  | .outReg r =>
    match r with
    | .B => .out_mC_B
    | .C => .out_mC_C
    | .D => .out_mC_D
    | .E => .out_mC_E
    | .H => .out_mC_H
    | .L => .out_mC_L
    | .A => .out_mC_A
  | .outA n => .out_mn_A n
  | .nop => .nop
  | .halt => .halt
  | .di => .di
  | .ei => .ei
  | .im m =>
    match m with
    | .im0 => .im_0
    | .im1 => .im_1
    | .im2 => .im_2

end Sys2Proof
end

