-- ==== Sys2Proof/Machine/Dispatch.lean ====
section
/-! DEFINITION. One arm per constructor of `Instr`: its meaning. -/

namespace Sys2Proof.Machine

def exec (i : Instr) (s : State) : Host.Outcome State Fault Refusal :=
  match i with
  -- Base layer (30_encoding.md R110)
  | .nop => Sys2Proof.Machine.exec_nop s
  | .ld_BC_nn nn => Sys2Proof.Machine.exec_ld_BC_nn nn s
  | .ld_mBC_A => Sys2Proof.Machine.exec_ld_mBC_A s
  | .inc_BC => Sys2Proof.Machine.exec_inc_BC s
  | .inc_B => Sys2Proof.Machine.exec_inc_B s
  | .dec_B => Sys2Proof.Machine.exec_dec_B s
  | .ld_B_n n => Sys2Proof.Machine.exec_ld_B_n n s
  | .rlca => Sys2Proof.Machine.exec_rlca s
  | .ex_AF_AF => Sys2Proof.Machine.exec_ex_AF_AF s
  | .add_HL_BC => Sys2Proof.Machine.exec_add_HL_BC s
  | .ld_A_mBC => Sys2Proof.Machine.exec_ld_A_mBC s
  | .dec_BC => Sys2Proof.Machine.exec_dec_BC s
  | .inc_C => Sys2Proof.Machine.exec_inc_C s
  | .dec_C => Sys2Proof.Machine.exec_dec_C s
  | .ld_C_n n => Sys2Proof.Machine.exec_ld_C_n n s
  | .rrca => Sys2Proof.Machine.exec_rrca s
  | .djnz_e e => Sys2Proof.Machine.exec_djnz_e e s
  | .ld_DE_nn nn => Sys2Proof.Machine.exec_ld_DE_nn nn s
  | .ld_mDE_A => Sys2Proof.Machine.exec_ld_mDE_A s
  | .inc_DE => Sys2Proof.Machine.exec_inc_DE s
  | .inc_D => Sys2Proof.Machine.exec_inc_D s
  | .dec_D => Sys2Proof.Machine.exec_dec_D s
  | .ld_D_n n => Sys2Proof.Machine.exec_ld_D_n n s
  | .rla => Sys2Proof.Machine.exec_rla s
  | .jr_e e => Sys2Proof.Machine.exec_jr_e e s
  | .add_HL_DE => Sys2Proof.Machine.exec_add_HL_DE s
  | .ld_A_mDE => Sys2Proof.Machine.exec_ld_A_mDE s
  | .dec_DE => Sys2Proof.Machine.exec_dec_DE s
  | .inc_E => Sys2Proof.Machine.exec_inc_E s
  | .dec_E => Sys2Proof.Machine.exec_dec_E s
  | .ld_E_n n => Sys2Proof.Machine.exec_ld_E_n n s
  | .rra => Sys2Proof.Machine.exec_rra s
  | .jr_NZ_e e => Sys2Proof.Machine.exec_jr_NZ_e e s
  | .ld_HL_nn nn => Sys2Proof.Machine.exec_ld_HL_nn nn s
  | .ld_mnn_HL nn => Sys2Proof.Machine.exec_ld_mnn_HL nn s
  | .inc_HL => Sys2Proof.Machine.exec_inc_HL s
  | .inc_H => Sys2Proof.Machine.exec_inc_H s
  | .dec_H => Sys2Proof.Machine.exec_dec_H s
  | .ld_H_n n => Sys2Proof.Machine.exec_ld_H_n n s
  | .daa => Sys2Proof.Machine.exec_daa s
  | .jr_Z_e e => Sys2Proof.Machine.exec_jr_Z_e e s
  | .add_HL_HL => Sys2Proof.Machine.exec_add_HL_HL s
  | .ld_HL_mnn nn => Sys2Proof.Machine.exec_ld_HL_mnn nn s
  | .dec_HL => Sys2Proof.Machine.exec_dec_HL s
  | .inc_L => Sys2Proof.Machine.exec_inc_L s
  | .dec_L => Sys2Proof.Machine.exec_dec_L s
  | .ld_L_n n => Sys2Proof.Machine.exec_ld_L_n n s
  | .cpl => Sys2Proof.Machine.exec_cpl s
  | .jr_NC_e e => Sys2Proof.Machine.exec_jr_NC_e e s
  | .ld_SP_nn nn => Sys2Proof.Machine.exec_ld_SP_nn nn s
  | .ld_mnn_A nn => Sys2Proof.Machine.exec_ld_mnn_A nn s
  | .inc_SP => Sys2Proof.Machine.exec_inc_SP s
  | .inc_mHL => Sys2Proof.Machine.exec_inc_mHL s
  | .dec_mHL => Sys2Proof.Machine.exec_dec_mHL s
  | .ld_mHL_n n => Sys2Proof.Machine.exec_ld_mHL_n n s
  | .scf => Sys2Proof.Machine.exec_scf s
  | .jr_C_e e => Sys2Proof.Machine.exec_jr_C_e e s
  | .add_HL_SP => Sys2Proof.Machine.exec_add_HL_SP s
  | .ld_A_mnn nn => Sys2Proof.Machine.exec_ld_A_mnn nn s
  | .dec_SP => Sys2Proof.Machine.exec_dec_SP s
  | .inc_A => Sys2Proof.Machine.exec_inc_A s
  | .dec_A => Sys2Proof.Machine.exec_dec_A s
  | .ld_A_n n => Sys2Proof.Machine.exec_ld_A_n n s
  | .ccf => Sys2Proof.Machine.exec_ccf s
  | .ld_B_B => Sys2Proof.Machine.exec_ld_B_B s
  | .ld_B_C => Sys2Proof.Machine.exec_ld_B_C s
  | .ld_B_D => Sys2Proof.Machine.exec_ld_B_D s
  | .ld_B_E => Sys2Proof.Machine.exec_ld_B_E s
  | .ld_B_H => Sys2Proof.Machine.exec_ld_B_H s
  | .ld_B_L => Sys2Proof.Machine.exec_ld_B_L s
  | .ld_B_mHL => Sys2Proof.Machine.exec_ld_B_mHL s
  | .ld_B_A => Sys2Proof.Machine.exec_ld_B_A s
  | .ld_C_B => Sys2Proof.Machine.exec_ld_C_B s
  | .ld_C_C => Sys2Proof.Machine.exec_ld_C_C s
  | .ld_C_D => Sys2Proof.Machine.exec_ld_C_D s
  | .ld_C_E => Sys2Proof.Machine.exec_ld_C_E s
  | .ld_C_H => Sys2Proof.Machine.exec_ld_C_H s
  | .ld_C_L => Sys2Proof.Machine.exec_ld_C_L s
  | .ld_C_mHL => Sys2Proof.Machine.exec_ld_C_mHL s
  | .ld_C_A => Sys2Proof.Machine.exec_ld_C_A s
  | .ld_D_B => Sys2Proof.Machine.exec_ld_D_B s
  | .ld_D_C => Sys2Proof.Machine.exec_ld_D_C s
  | .ld_D_D => Sys2Proof.Machine.exec_ld_D_D s
  | .ld_D_E => Sys2Proof.Machine.exec_ld_D_E s
  | .ld_D_H => Sys2Proof.Machine.exec_ld_D_H s
  | .ld_D_L => Sys2Proof.Machine.exec_ld_D_L s
  | .ld_D_mHL => Sys2Proof.Machine.exec_ld_D_mHL s
  | .ld_D_A => Sys2Proof.Machine.exec_ld_D_A s
  | .ld_E_B => Sys2Proof.Machine.exec_ld_E_B s
  | .ld_E_C => Sys2Proof.Machine.exec_ld_E_C s
  | .ld_E_D => Sys2Proof.Machine.exec_ld_E_D s
  | .ld_E_E => Sys2Proof.Machine.exec_ld_E_E s
  | .ld_E_H => Sys2Proof.Machine.exec_ld_E_H s
  | .ld_E_L => Sys2Proof.Machine.exec_ld_E_L s
  | .ld_E_mHL => Sys2Proof.Machine.exec_ld_E_mHL s
  | .ld_E_A => Sys2Proof.Machine.exec_ld_E_A s
  | .ld_H_B => Sys2Proof.Machine.exec_ld_H_B s
  | .ld_H_C => Sys2Proof.Machine.exec_ld_H_C s
  | .ld_H_D => Sys2Proof.Machine.exec_ld_H_D s
  | .ld_H_E => Sys2Proof.Machine.exec_ld_H_E s
  | .ld_H_H => Sys2Proof.Machine.exec_ld_H_H s
  | .ld_H_L => Sys2Proof.Machine.exec_ld_H_L s
  | .ld_H_mHL => Sys2Proof.Machine.exec_ld_H_mHL s
  | .ld_H_A => Sys2Proof.Machine.exec_ld_H_A s
  | .ld_L_B => Sys2Proof.Machine.exec_ld_L_B s
  | .ld_L_C => Sys2Proof.Machine.exec_ld_L_C s
  | .ld_L_D => Sys2Proof.Machine.exec_ld_L_D s
  | .ld_L_E => Sys2Proof.Machine.exec_ld_L_E s
  | .ld_L_H => Sys2Proof.Machine.exec_ld_L_H s
  | .ld_L_L => Sys2Proof.Machine.exec_ld_L_L s
  | .ld_L_mHL => Sys2Proof.Machine.exec_ld_L_mHL s
  | .ld_L_A => Sys2Proof.Machine.exec_ld_L_A s
  | .ld_mHL_B => Sys2Proof.Machine.exec_ld_mHL_B s
  | .ld_mHL_C => Sys2Proof.Machine.exec_ld_mHL_C s
  | .ld_mHL_D => Sys2Proof.Machine.exec_ld_mHL_D s
  | .ld_mHL_E => Sys2Proof.Machine.exec_ld_mHL_E s
  | .ld_mHL_H => Sys2Proof.Machine.exec_ld_mHL_H s
  | .ld_mHL_L => Sys2Proof.Machine.exec_ld_mHL_L s
  | .halt => Sys2Proof.Machine.exec_halt s
  | .ld_mHL_A => Sys2Proof.Machine.exec_ld_mHL_A s
  | .ld_A_B => Sys2Proof.Machine.exec_ld_A_B s
  | .ld_A_C => Sys2Proof.Machine.exec_ld_A_C s
  | .ld_A_D => Sys2Proof.Machine.exec_ld_A_D s
  | .ld_A_E => Sys2Proof.Machine.exec_ld_A_E s
  | .ld_A_H => Sys2Proof.Machine.exec_ld_A_H s
  | .ld_A_L => Sys2Proof.Machine.exec_ld_A_L s
  | .ld_A_mHL => Sys2Proof.Machine.exec_ld_A_mHL s
  | .ld_A_A => Sys2Proof.Machine.exec_ld_A_A s
  | .add_A_B => Sys2Proof.Machine.exec_add_A_B s
  | .add_A_C => Sys2Proof.Machine.exec_add_A_C s
  | .add_A_D => Sys2Proof.Machine.exec_add_A_D s
  | .add_A_E => Sys2Proof.Machine.exec_add_A_E s
  | .add_A_H => Sys2Proof.Machine.exec_add_A_H s
  | .add_A_L => Sys2Proof.Machine.exec_add_A_L s
  | .add_A_mHL => Sys2Proof.Machine.exec_add_A_mHL s
  | .add_A_A => Sys2Proof.Machine.exec_add_A_A s
  | .adc_A_B => Sys2Proof.Machine.exec_adc_A_B s
  | .adc_A_C => Sys2Proof.Machine.exec_adc_A_C s
  | .adc_A_D => Sys2Proof.Machine.exec_adc_A_D s
  | .adc_A_E => Sys2Proof.Machine.exec_adc_A_E s
  | .adc_A_H => Sys2Proof.Machine.exec_adc_A_H s
  | .adc_A_L => Sys2Proof.Machine.exec_adc_A_L s
  | .adc_A_mHL => Sys2Proof.Machine.exec_adc_A_mHL s
  | .adc_A_A => Sys2Proof.Machine.exec_adc_A_A s
  | .sub_B => Sys2Proof.Machine.exec_sub_B s
  | .sub_C => Sys2Proof.Machine.exec_sub_C s
  | .sub_D => Sys2Proof.Machine.exec_sub_D s
  | .sub_E => Sys2Proof.Machine.exec_sub_E s
  | .sub_H => Sys2Proof.Machine.exec_sub_H s
  | .sub_L => Sys2Proof.Machine.exec_sub_L s
  | .sub_mHL => Sys2Proof.Machine.exec_sub_mHL s
  | .sub_A => Sys2Proof.Machine.exec_sub_A s
  | .sbc_A_B => Sys2Proof.Machine.exec_sbc_A_B s
  | .sbc_A_C => Sys2Proof.Machine.exec_sbc_A_C s
  | .sbc_A_D => Sys2Proof.Machine.exec_sbc_A_D s
  | .sbc_A_E => Sys2Proof.Machine.exec_sbc_A_E s
  | .sbc_A_H => Sys2Proof.Machine.exec_sbc_A_H s
  | .sbc_A_L => Sys2Proof.Machine.exec_sbc_A_L s
  | .sbc_A_mHL => Sys2Proof.Machine.exec_sbc_A_mHL s
  | .sbc_A_A => Sys2Proof.Machine.exec_sbc_A_A s
  | .and_B => Sys2Proof.Machine.exec_and_B s
  | .and_C => Sys2Proof.Machine.exec_and_C s
  | .and_D => Sys2Proof.Machine.exec_and_D s
  | .and_E => Sys2Proof.Machine.exec_and_E s
  | .and_H => Sys2Proof.Machine.exec_and_H s
  | .and_L => Sys2Proof.Machine.exec_and_L s
  | .and_mHL => Sys2Proof.Machine.exec_and_mHL s
  | .and_A => Sys2Proof.Machine.exec_and_A s
  | .xor_B => Sys2Proof.Machine.exec_xor_B s
  | .xor_C => Sys2Proof.Machine.exec_xor_C s
  | .xor_D => Sys2Proof.Machine.exec_xor_D s
  | .xor_E => Sys2Proof.Machine.exec_xor_E s
  | .xor_H => Sys2Proof.Machine.exec_xor_H s
  | .xor_L => Sys2Proof.Machine.exec_xor_L s
  | .xor_mHL => Sys2Proof.Machine.exec_xor_mHL s
  | .xor_A => Sys2Proof.Machine.exec_xor_A s
  | .or_B => Sys2Proof.Machine.exec_or_B s
  | .or_C => Sys2Proof.Machine.exec_or_C s
  | .or_D => Sys2Proof.Machine.exec_or_D s
  | .or_E => Sys2Proof.Machine.exec_or_E s
  | .or_H => Sys2Proof.Machine.exec_or_H s
  | .or_L => Sys2Proof.Machine.exec_or_L s
  | .or_mHL => Sys2Proof.Machine.exec_or_mHL s
  | .or_A => Sys2Proof.Machine.exec_or_A s
  | .cp_B => Sys2Proof.Machine.exec_cp_B s
  | .cp_C => Sys2Proof.Machine.exec_cp_C s
  | .cp_D => Sys2Proof.Machine.exec_cp_D s
  | .cp_E => Sys2Proof.Machine.exec_cp_E s
  | .cp_H => Sys2Proof.Machine.exec_cp_H s
  | .cp_L => Sys2Proof.Machine.exec_cp_L s
  | .cp_mHL => Sys2Proof.Machine.exec_cp_mHL s
  | .cp_A => Sys2Proof.Machine.exec_cp_A s
  | .ret_NZ => Sys2Proof.Machine.exec_ret_NZ s
  | .pop_BC => Sys2Proof.Machine.exec_pop_BC s
  | .jp_NZ_nn nn => Sys2Proof.Machine.exec_jp_NZ_nn nn s
  | .jp_nn nn => Sys2Proof.Machine.exec_jp_nn nn s
  | .call_NZ_nn nn => Sys2Proof.Machine.exec_call_NZ_nn nn s
  | .push_BC => Sys2Proof.Machine.exec_push_BC s
  | .add_A_n n => Sys2Proof.Machine.exec_add_A_n n s
  | .rst_00 => Sys2Proof.Machine.exec_rst_00 s
  | .ret_Z => Sys2Proof.Machine.exec_ret_Z s
  | .ret => Sys2Proof.Machine.exec_ret s
  | .jp_Z_nn nn => Sys2Proof.Machine.exec_jp_Z_nn nn s
  | .call_Z_nn nn => Sys2Proof.Machine.exec_call_Z_nn nn s
  | .call_nn nn => Sys2Proof.Machine.exec_call_nn nn s
  | .adc_A_n n => Sys2Proof.Machine.exec_adc_A_n n s
  | .rst_08 => Sys2Proof.Machine.exec_rst_08 s
  | .ret_NC => Sys2Proof.Machine.exec_ret_NC s
  | .pop_DE => Sys2Proof.Machine.exec_pop_DE s
  | .jp_NC_nn nn => Sys2Proof.Machine.exec_jp_NC_nn nn s
  | .out_mn_A n => Sys2Proof.Machine.exec_out_mn_A n s
  | .call_NC_nn nn => Sys2Proof.Machine.exec_call_NC_nn nn s
  | .push_DE => Sys2Proof.Machine.exec_push_DE s
  | .sub_n n => Sys2Proof.Machine.exec_sub_n n s
  | .rst_10 => Sys2Proof.Machine.exec_rst_10 s
  | .ret_C => Sys2Proof.Machine.exec_ret_C s
  | .exx => Sys2Proof.Machine.exec_exx s
  | .jp_C_nn nn => Sys2Proof.Machine.exec_jp_C_nn nn s
  | .in_A_mn n => Sys2Proof.Machine.exec_in_A_mn n s
  | .call_C_nn nn => Sys2Proof.Machine.exec_call_C_nn nn s
  | .sbc_A_n n => Sys2Proof.Machine.exec_sbc_A_n n s
  | .rst_18 => Sys2Proof.Machine.exec_rst_18 s
  | .ret_PO => Sys2Proof.Machine.exec_ret_PO s
  | .pop_HL => Sys2Proof.Machine.exec_pop_HL s
  | .jp_PO_nn nn => Sys2Proof.Machine.exec_jp_PO_nn nn s
  | .ex_mSP_HL => Sys2Proof.Machine.exec_ex_mSP_HL s
  | .call_PO_nn nn => Sys2Proof.Machine.exec_call_PO_nn nn s
  | .push_HL => Sys2Proof.Machine.exec_push_HL s
  | .and_n n => Sys2Proof.Machine.exec_and_n n s
  | .rst_20 => Sys2Proof.Machine.exec_rst_20 s
  | .ret_PE => Sys2Proof.Machine.exec_ret_PE s
  | .jp_mHL => Sys2Proof.Machine.exec_jp_mHL s
  | .jp_PE_nn nn => Sys2Proof.Machine.exec_jp_PE_nn nn s
  | .ex_DE_HL => Sys2Proof.Machine.exec_ex_DE_HL s
  | .call_PE_nn nn => Sys2Proof.Machine.exec_call_PE_nn nn s
  | .xor_n n => Sys2Proof.Machine.exec_xor_n n s
  | .rst_28 => Sys2Proof.Machine.exec_rst_28 s
  | .ret_P => Sys2Proof.Machine.exec_ret_P s
  | .pop_AF => Sys2Proof.Machine.exec_pop_AF s
  | .jp_P_nn nn => Sys2Proof.Machine.exec_jp_P_nn nn s
  | .di => Sys2Proof.Machine.exec_di s
  | .call_P_nn nn => Sys2Proof.Machine.exec_call_P_nn nn s
  | .push_AF => Sys2Proof.Machine.exec_push_AF s
  | .or_n n => Sys2Proof.Machine.exec_or_n n s
  | .rst_30 => Sys2Proof.Machine.exec_rst_30 s
  | .ret_M => Sys2Proof.Machine.exec_ret_M s
  | .ld_SP_HL => Sys2Proof.Machine.exec_ld_SP_HL s
  | .jp_M_nn nn => Sys2Proof.Machine.exec_jp_M_nn nn s
  | .ei => Sys2Proof.Machine.exec_ei s
  | .call_M_nn nn => Sys2Proof.Machine.exec_call_M_nn nn s
  | .cp_n n => Sys2Proof.Machine.exec_cp_n n s
  | .rst_38 => Sys2Proof.Machine.exec_rst_38 s
  -- CB layer (R111)
  | .rlc_B => Sys2Proof.Machine.exec_rlc_B s
  | .rlc_C => Sys2Proof.Machine.exec_rlc_C s
  | .rlc_D => Sys2Proof.Machine.exec_rlc_D s
  | .rlc_E => Sys2Proof.Machine.exec_rlc_E s
  | .rlc_H => Sys2Proof.Machine.exec_rlc_H s
  | .rlc_L => Sys2Proof.Machine.exec_rlc_L s
  | .rlc_mHL => Sys2Proof.Machine.exec_rlc_mHL s
  | .rlc_A => Sys2Proof.Machine.exec_rlc_A s
  | .rrc_B => Sys2Proof.Machine.exec_rrc_B s
  | .rrc_C => Sys2Proof.Machine.exec_rrc_C s
  | .rrc_D => Sys2Proof.Machine.exec_rrc_D s
  | .rrc_E => Sys2Proof.Machine.exec_rrc_E s
  | .rrc_H => Sys2Proof.Machine.exec_rrc_H s
  | .rrc_L => Sys2Proof.Machine.exec_rrc_L s
  | .rrc_mHL => Sys2Proof.Machine.exec_rrc_mHL s
  | .rrc_A => Sys2Proof.Machine.exec_rrc_A s
  | .rl_B => Sys2Proof.Machine.exec_rl_B s
  | .rl_C => Sys2Proof.Machine.exec_rl_C s
  | .rl_D => Sys2Proof.Machine.exec_rl_D s
  | .rl_E => Sys2Proof.Machine.exec_rl_E s
  | .rl_H => Sys2Proof.Machine.exec_rl_H s
  | .rl_L => Sys2Proof.Machine.exec_rl_L s
  | .rl_mHL => Sys2Proof.Machine.exec_rl_mHL s
  | .rl_A => Sys2Proof.Machine.exec_rl_A s
  | .rr_B => Sys2Proof.Machine.exec_rr_B s
  | .rr_C => Sys2Proof.Machine.exec_rr_C s
  | .rr_D => Sys2Proof.Machine.exec_rr_D s
  | .rr_E => Sys2Proof.Machine.exec_rr_E s
  | .rr_H => Sys2Proof.Machine.exec_rr_H s
  | .rr_L => Sys2Proof.Machine.exec_rr_L s
  | .rr_mHL => Sys2Proof.Machine.exec_rr_mHL s
  | .rr_A => Sys2Proof.Machine.exec_rr_A s
  | .sla_B => Sys2Proof.Machine.exec_sla_B s
  | .sla_C => Sys2Proof.Machine.exec_sla_C s
  | .sla_D => Sys2Proof.Machine.exec_sla_D s
  | .sla_E => Sys2Proof.Machine.exec_sla_E s
  | .sla_H => Sys2Proof.Machine.exec_sla_H s
  | .sla_L => Sys2Proof.Machine.exec_sla_L s
  | .sla_mHL => Sys2Proof.Machine.exec_sla_mHL s
  | .sla_A => Sys2Proof.Machine.exec_sla_A s
  | .sra_B => Sys2Proof.Machine.exec_sra_B s
  | .sra_C => Sys2Proof.Machine.exec_sra_C s
  | .sra_D => Sys2Proof.Machine.exec_sra_D s
  | .sra_E => Sys2Proof.Machine.exec_sra_E s
  | .sra_H => Sys2Proof.Machine.exec_sra_H s
  | .sra_L => Sys2Proof.Machine.exec_sra_L s
  | .sra_mHL => Sys2Proof.Machine.exec_sra_mHL s
  | .sra_A => Sys2Proof.Machine.exec_sra_A s
  | .sll_B => Sys2Proof.Machine.exec_sll_B s
  | .sll_C => Sys2Proof.Machine.exec_sll_C s
  | .sll_D => Sys2Proof.Machine.exec_sll_D s
  | .sll_E => Sys2Proof.Machine.exec_sll_E s
  | .sll_H => Sys2Proof.Machine.exec_sll_H s
  | .sll_L => Sys2Proof.Machine.exec_sll_L s
  | .sll_mHL => Sys2Proof.Machine.exec_sll_mHL s
  | .sll_A => Sys2Proof.Machine.exec_sll_A s
  | .srl_B => Sys2Proof.Machine.exec_srl_B s
  | .srl_C => Sys2Proof.Machine.exec_srl_C s
  | .srl_D => Sys2Proof.Machine.exec_srl_D s
  | .srl_E => Sys2Proof.Machine.exec_srl_E s
  | .srl_H => Sys2Proof.Machine.exec_srl_H s
  | .srl_L => Sys2Proof.Machine.exec_srl_L s
  | .srl_mHL => Sys2Proof.Machine.exec_srl_mHL s
  | .srl_A => Sys2Proof.Machine.exec_srl_A s
  | .bit_0_B => Sys2Proof.Machine.exec_bit_0_B s
  | .bit_0_C => Sys2Proof.Machine.exec_bit_0_C s
  | .bit_0_D => Sys2Proof.Machine.exec_bit_0_D s
  | .bit_0_E => Sys2Proof.Machine.exec_bit_0_E s
  | .bit_0_H => Sys2Proof.Machine.exec_bit_0_H s
  | .bit_0_L => Sys2Proof.Machine.exec_bit_0_L s
  | .bit_0_mHL => Sys2Proof.Machine.exec_bit_0_mHL s
  | .bit_0_A => Sys2Proof.Machine.exec_bit_0_A s
  | .bit_1_B => Sys2Proof.Machine.exec_bit_1_B s
  | .bit_1_C => Sys2Proof.Machine.exec_bit_1_C s
  | .bit_1_D => Sys2Proof.Machine.exec_bit_1_D s
  | .bit_1_E => Sys2Proof.Machine.exec_bit_1_E s
  | .bit_1_H => Sys2Proof.Machine.exec_bit_1_H s
  | .bit_1_L => Sys2Proof.Machine.exec_bit_1_L s
  | .bit_1_mHL => Sys2Proof.Machine.exec_bit_1_mHL s
  | .bit_1_A => Sys2Proof.Machine.exec_bit_1_A s
  | .bit_2_B => Sys2Proof.Machine.exec_bit_2_B s
  | .bit_2_C => Sys2Proof.Machine.exec_bit_2_C s
  | .bit_2_D => Sys2Proof.Machine.exec_bit_2_D s
  | .bit_2_E => Sys2Proof.Machine.exec_bit_2_E s
  | .bit_2_H => Sys2Proof.Machine.exec_bit_2_H s
  | .bit_2_L => Sys2Proof.Machine.exec_bit_2_L s
  | .bit_2_mHL => Sys2Proof.Machine.exec_bit_2_mHL s
  | .bit_2_A => Sys2Proof.Machine.exec_bit_2_A s
  | .bit_3_B => Sys2Proof.Machine.exec_bit_3_B s
  | .bit_3_C => Sys2Proof.Machine.exec_bit_3_C s
  | .bit_3_D => Sys2Proof.Machine.exec_bit_3_D s
  | .bit_3_E => Sys2Proof.Machine.exec_bit_3_E s
  | .bit_3_H => Sys2Proof.Machine.exec_bit_3_H s
  | .bit_3_L => Sys2Proof.Machine.exec_bit_3_L s
  | .bit_3_mHL => Sys2Proof.Machine.exec_bit_3_mHL s
  | .bit_3_A => Sys2Proof.Machine.exec_bit_3_A s
  | .bit_4_B => Sys2Proof.Machine.exec_bit_4_B s
  | .bit_4_C => Sys2Proof.Machine.exec_bit_4_C s
  | .bit_4_D => Sys2Proof.Machine.exec_bit_4_D s
  | .bit_4_E => Sys2Proof.Machine.exec_bit_4_E s
  | .bit_4_H => Sys2Proof.Machine.exec_bit_4_H s
  | .bit_4_L => Sys2Proof.Machine.exec_bit_4_L s
  | .bit_4_mHL => Sys2Proof.Machine.exec_bit_4_mHL s
  | .bit_4_A => Sys2Proof.Machine.exec_bit_4_A s
  | .bit_5_B => Sys2Proof.Machine.exec_bit_5_B s
  | .bit_5_C => Sys2Proof.Machine.exec_bit_5_C s
  | .bit_5_D => Sys2Proof.Machine.exec_bit_5_D s
  | .bit_5_E => Sys2Proof.Machine.exec_bit_5_E s
  | .bit_5_H => Sys2Proof.Machine.exec_bit_5_H s
  | .bit_5_L => Sys2Proof.Machine.exec_bit_5_L s
  | .bit_5_mHL => Sys2Proof.Machine.exec_bit_5_mHL s
  | .bit_5_A => Sys2Proof.Machine.exec_bit_5_A s
  | .bit_6_B => Sys2Proof.Machine.exec_bit_6_B s
  | .bit_6_C => Sys2Proof.Machine.exec_bit_6_C s
  | .bit_6_D => Sys2Proof.Machine.exec_bit_6_D s
  | .bit_6_E => Sys2Proof.Machine.exec_bit_6_E s
  | .bit_6_H => Sys2Proof.Machine.exec_bit_6_H s
  | .bit_6_L => Sys2Proof.Machine.exec_bit_6_L s
  | .bit_6_mHL => Sys2Proof.Machine.exec_bit_6_mHL s
  | .bit_6_A => Sys2Proof.Machine.exec_bit_6_A s
  | .bit_7_B => Sys2Proof.Machine.exec_bit_7_B s
  | .bit_7_C => Sys2Proof.Machine.exec_bit_7_C s
  | .bit_7_D => Sys2Proof.Machine.exec_bit_7_D s
  | .bit_7_E => Sys2Proof.Machine.exec_bit_7_E s
  | .bit_7_H => Sys2Proof.Machine.exec_bit_7_H s
  | .bit_7_L => Sys2Proof.Machine.exec_bit_7_L s
  | .bit_7_mHL => Sys2Proof.Machine.exec_bit_7_mHL s
  | .bit_7_A => Sys2Proof.Machine.exec_bit_7_A s
  | .res_0_B => Sys2Proof.Machine.exec_res_0_B s
  | .res_0_C => Sys2Proof.Machine.exec_res_0_C s
  | .res_0_D => Sys2Proof.Machine.exec_res_0_D s
  | .res_0_E => Sys2Proof.Machine.exec_res_0_E s
  | .res_0_H => Sys2Proof.Machine.exec_res_0_H s
  | .res_0_L => Sys2Proof.Machine.exec_res_0_L s
  | .res_0_mHL => Sys2Proof.Machine.exec_res_0_mHL s
  | .res_0_A => Sys2Proof.Machine.exec_res_0_A s
  | .res_1_B => Sys2Proof.Machine.exec_res_1_B s
  | .res_1_C => Sys2Proof.Machine.exec_res_1_C s
  | .res_1_D => Sys2Proof.Machine.exec_res_1_D s
  | .res_1_E => Sys2Proof.Machine.exec_res_1_E s
  | .res_1_H => Sys2Proof.Machine.exec_res_1_H s
  | .res_1_L => Sys2Proof.Machine.exec_res_1_L s
  | .res_1_mHL => Sys2Proof.Machine.exec_res_1_mHL s
  | .res_1_A => Sys2Proof.Machine.exec_res_1_A s
  | .res_2_B => Sys2Proof.Machine.exec_res_2_B s
  | .res_2_C => Sys2Proof.Machine.exec_res_2_C s
  | .res_2_D => Sys2Proof.Machine.exec_res_2_D s
  | .res_2_E => Sys2Proof.Machine.exec_res_2_E s
  | .res_2_H => Sys2Proof.Machine.exec_res_2_H s
  | .res_2_L => Sys2Proof.Machine.exec_res_2_L s
  | .res_2_mHL => Sys2Proof.Machine.exec_res_2_mHL s
  | .res_2_A => Sys2Proof.Machine.exec_res_2_A s
  | .res_3_B => Sys2Proof.Machine.exec_res_3_B s
  | .res_3_C => Sys2Proof.Machine.exec_res_3_C s
  | .res_3_D => Sys2Proof.Machine.exec_res_3_D s
  | .res_3_E => Sys2Proof.Machine.exec_res_3_E s
  | .res_3_H => Sys2Proof.Machine.exec_res_3_H s
  | .res_3_L => Sys2Proof.Machine.exec_res_3_L s
  | .res_3_mHL => Sys2Proof.Machine.exec_res_3_mHL s
  | .res_3_A => Sys2Proof.Machine.exec_res_3_A s
  | .res_4_B => Sys2Proof.Machine.exec_res_4_B s
  | .res_4_C => Sys2Proof.Machine.exec_res_4_C s
  | .res_4_D => Sys2Proof.Machine.exec_res_4_D s
  | .res_4_E => Sys2Proof.Machine.exec_res_4_E s
  | .res_4_H => Sys2Proof.Machine.exec_res_4_H s
  | .res_4_L => Sys2Proof.Machine.exec_res_4_L s
  | .res_4_mHL => Sys2Proof.Machine.exec_res_4_mHL s
  | .res_4_A => Sys2Proof.Machine.exec_res_4_A s
  | .res_5_B => Sys2Proof.Machine.exec_res_5_B s
  | .res_5_C => Sys2Proof.Machine.exec_res_5_C s
  | .res_5_D => Sys2Proof.Machine.exec_res_5_D s
  | .res_5_E => Sys2Proof.Machine.exec_res_5_E s
  | .res_5_H => Sys2Proof.Machine.exec_res_5_H s
  | .res_5_L => Sys2Proof.Machine.exec_res_5_L s
  | .res_5_mHL => Sys2Proof.Machine.exec_res_5_mHL s
  | .res_5_A => Sys2Proof.Machine.exec_res_5_A s
  | .res_6_B => Sys2Proof.Machine.exec_res_6_B s
  | .res_6_C => Sys2Proof.Machine.exec_res_6_C s
  | .res_6_D => Sys2Proof.Machine.exec_res_6_D s
  | .res_6_E => Sys2Proof.Machine.exec_res_6_E s
  | .res_6_H => Sys2Proof.Machine.exec_res_6_H s
  | .res_6_L => Sys2Proof.Machine.exec_res_6_L s
  | .res_6_mHL => Sys2Proof.Machine.exec_res_6_mHL s
  | .res_6_A => Sys2Proof.Machine.exec_res_6_A s
  | .res_7_B => Sys2Proof.Machine.exec_res_7_B s
  | .res_7_C => Sys2Proof.Machine.exec_res_7_C s
  | .res_7_D => Sys2Proof.Machine.exec_res_7_D s
  | .res_7_E => Sys2Proof.Machine.exec_res_7_E s
  | .res_7_H => Sys2Proof.Machine.exec_res_7_H s
  | .res_7_L => Sys2Proof.Machine.exec_res_7_L s
  | .res_7_mHL => Sys2Proof.Machine.exec_res_7_mHL s
  | .res_7_A => Sys2Proof.Machine.exec_res_7_A s
  | .set_0_B => Sys2Proof.Machine.exec_set_0_B s
  | .set_0_C => Sys2Proof.Machine.exec_set_0_C s
  | .set_0_D => Sys2Proof.Machine.exec_set_0_D s
  | .set_0_E => Sys2Proof.Machine.exec_set_0_E s
  | .set_0_H => Sys2Proof.Machine.exec_set_0_H s
  | .set_0_L => Sys2Proof.Machine.exec_set_0_L s
  | .set_0_mHL => Sys2Proof.Machine.exec_set_0_mHL s
  | .set_0_A => Sys2Proof.Machine.exec_set_0_A s
  | .set_1_B => Sys2Proof.Machine.exec_set_1_B s
  | .set_1_C => Sys2Proof.Machine.exec_set_1_C s
  | .set_1_D => Sys2Proof.Machine.exec_set_1_D s
  | .set_1_E => Sys2Proof.Machine.exec_set_1_E s
  | .set_1_H => Sys2Proof.Machine.exec_set_1_H s
  | .set_1_L => Sys2Proof.Machine.exec_set_1_L s
  | .set_1_mHL => Sys2Proof.Machine.exec_set_1_mHL s
  | .set_1_A => Sys2Proof.Machine.exec_set_1_A s
  | .set_2_B => Sys2Proof.Machine.exec_set_2_B s
  | .set_2_C => Sys2Proof.Machine.exec_set_2_C s
  | .set_2_D => Sys2Proof.Machine.exec_set_2_D s
  | .set_2_E => Sys2Proof.Machine.exec_set_2_E s
  | .set_2_H => Sys2Proof.Machine.exec_set_2_H s
  | .set_2_L => Sys2Proof.Machine.exec_set_2_L s
  | .set_2_mHL => Sys2Proof.Machine.exec_set_2_mHL s
  | .set_2_A => Sys2Proof.Machine.exec_set_2_A s
  | .set_3_B => Sys2Proof.Machine.exec_set_3_B s
  | .set_3_C => Sys2Proof.Machine.exec_set_3_C s
  | .set_3_D => Sys2Proof.Machine.exec_set_3_D s
  | .set_3_E => Sys2Proof.Machine.exec_set_3_E s
  | .set_3_H => Sys2Proof.Machine.exec_set_3_H s
  | .set_3_L => Sys2Proof.Machine.exec_set_3_L s
  | .set_3_mHL => Sys2Proof.Machine.exec_set_3_mHL s
  | .set_3_A => Sys2Proof.Machine.exec_set_3_A s
  | .set_4_B => Sys2Proof.Machine.exec_set_4_B s
  | .set_4_C => Sys2Proof.Machine.exec_set_4_C s
  | .set_4_D => Sys2Proof.Machine.exec_set_4_D s
  | .set_4_E => Sys2Proof.Machine.exec_set_4_E s
  | .set_4_H => Sys2Proof.Machine.exec_set_4_H s
  | .set_4_L => Sys2Proof.Machine.exec_set_4_L s
  | .set_4_mHL => Sys2Proof.Machine.exec_set_4_mHL s
  | .set_4_A => Sys2Proof.Machine.exec_set_4_A s
  | .set_5_B => Sys2Proof.Machine.exec_set_5_B s
  | .set_5_C => Sys2Proof.Machine.exec_set_5_C s
  | .set_5_D => Sys2Proof.Machine.exec_set_5_D s
  | .set_5_E => Sys2Proof.Machine.exec_set_5_E s
  | .set_5_H => Sys2Proof.Machine.exec_set_5_H s
  | .set_5_L => Sys2Proof.Machine.exec_set_5_L s
  | .set_5_mHL => Sys2Proof.Machine.exec_set_5_mHL s
  | .set_5_A => Sys2Proof.Machine.exec_set_5_A s
  | .set_6_B => Sys2Proof.Machine.exec_set_6_B s
  | .set_6_C => Sys2Proof.Machine.exec_set_6_C s
  | .set_6_D => Sys2Proof.Machine.exec_set_6_D s
  | .set_6_E => Sys2Proof.Machine.exec_set_6_E s
  | .set_6_H => Sys2Proof.Machine.exec_set_6_H s
  | .set_6_L => Sys2Proof.Machine.exec_set_6_L s
  | .set_6_mHL => Sys2Proof.Machine.exec_set_6_mHL s
  | .set_6_A => Sys2Proof.Machine.exec_set_6_A s
  | .set_7_B => Sys2Proof.Machine.exec_set_7_B s
  | .set_7_C => Sys2Proof.Machine.exec_set_7_C s
  | .set_7_D => Sys2Proof.Machine.exec_set_7_D s
  | .set_7_E => Sys2Proof.Machine.exec_set_7_E s
  | .set_7_H => Sys2Proof.Machine.exec_set_7_H s
  | .set_7_L => Sys2Proof.Machine.exec_set_7_L s
  | .set_7_mHL => Sys2Proof.Machine.exec_set_7_mHL s
  | .set_7_A => Sys2Proof.Machine.exec_set_7_A s
  -- ED layer (R112)
  | .in_B_mC => Sys2Proof.Machine.exec_in_B_mC s
  | .out_mC_B => Sys2Proof.Machine.exec_out_mC_B s
  | .sbc_HL_BC => Sys2Proof.Machine.exec_sbc_HL_BC s
  | .ld_mnn_BC nn => Sys2Proof.Machine.exec_ld_mnn_BC nn s
  | .neg => Sys2Proof.Machine.exec_neg s
  | .retn => Sys2Proof.Machine.exec_retn s
  | .im_0 => Sys2Proof.Machine.exec_im_0 s
  | .ld_I_A => Sys2Proof.Machine.exec_ld_I_A s
  | .in_C_mC => Sys2Proof.Machine.exec_in_C_mC s
  | .out_mC_C => Sys2Proof.Machine.exec_out_mC_C s
  | .adc_HL_BC => Sys2Proof.Machine.exec_adc_HL_BC s
  | .ld_BC_mnn nn => Sys2Proof.Machine.exec_ld_BC_mnn nn s
  | .reti => Sys2Proof.Machine.exec_reti s
  | .ld_R_A => Sys2Proof.Machine.exec_ld_R_A s
  | .in_D_mC => Sys2Proof.Machine.exec_in_D_mC s
  | .out_mC_D => Sys2Proof.Machine.exec_out_mC_D s
  | .sbc_HL_DE => Sys2Proof.Machine.exec_sbc_HL_DE s
  | .ld_mnn_DE nn => Sys2Proof.Machine.exec_ld_mnn_DE nn s
  | .im_1 => Sys2Proof.Machine.exec_im_1 s
  | .ld_A_I => Sys2Proof.Machine.exec_ld_A_I s
  | .in_E_mC => Sys2Proof.Machine.exec_in_E_mC s
  | .out_mC_E => Sys2Proof.Machine.exec_out_mC_E s
  | .adc_HL_DE => Sys2Proof.Machine.exec_adc_HL_DE s
  | .ld_DE_mnn nn => Sys2Proof.Machine.exec_ld_DE_mnn nn s
  | .im_2 => Sys2Proof.Machine.exec_im_2 s
  | .ld_A_R => Sys2Proof.Machine.exec_ld_A_R s
  | .in_H_mC => Sys2Proof.Machine.exec_in_H_mC s
  | .out_mC_H => Sys2Proof.Machine.exec_out_mC_H s
  | .sbc_HL_HL => Sys2Proof.Machine.exec_sbc_HL_HL s
  | .ld_mnn_HL_ed nn => Sys2Proof.Machine.exec_ld_mnn_HL_ed nn s
  | .rrd => Sys2Proof.Machine.exec_rrd s
  | .in_L_mC => Sys2Proof.Machine.exec_in_L_mC s
  | .out_mC_L => Sys2Proof.Machine.exec_out_mC_L s
  | .adc_HL_HL => Sys2Proof.Machine.exec_adc_HL_HL s
  | .ld_HL_mnn_ed nn => Sys2Proof.Machine.exec_ld_HL_mnn_ed nn s
  | .rld => Sys2Proof.Machine.exec_rld s
  | .sbc_HL_SP => Sys2Proof.Machine.exec_sbc_HL_SP s
  | .ld_mnn_SP nn => Sys2Proof.Machine.exec_ld_mnn_SP nn s
  | .in_A_mC => Sys2Proof.Machine.exec_in_A_mC s
  | .out_mC_A => Sys2Proof.Machine.exec_out_mC_A s
  | .adc_HL_SP => Sys2Proof.Machine.exec_adc_HL_SP s
  | .ld_SP_mnn nn => Sys2Proof.Machine.exec_ld_SP_mnn nn s
  | .ldi => Sys2Proof.Machine.exec_ldi s
  | .cpi => Sys2Proof.Machine.exec_cpi s
  | .ini => Sys2Proof.Machine.exec_ini s
  | .outi => Sys2Proof.Machine.exec_outi s
  | .ldd => Sys2Proof.Machine.exec_ldd s
  | .cpd => Sys2Proof.Machine.exec_cpd s
  | .ind => Sys2Proof.Machine.exec_ind s
  | .outd => Sys2Proof.Machine.exec_outd s
  | .ldir => Sys2Proof.Machine.exec_ldir s
  | .cpir => Sys2Proof.Machine.exec_cpir s
  | .inir => Sys2Proof.Machine.exec_inir s
  | .otir => Sys2Proof.Machine.exec_otir s
  | .lddr => Sys2Proof.Machine.exec_lddr s
  | .cpdr => Sys2Proof.Machine.exec_cpdr s
  | .indr => Sys2Proof.Machine.exec_indr s
  | .otdr => Sys2Proof.Machine.exec_otdr s
  -- DD layer (R113)
  | .add_IX_BC => Sys2Proof.Machine.exec_add_IX_BC s
  | .add_IX_DE => Sys2Proof.Machine.exec_add_IX_DE s
  | .ld_IX_nn nn => Sys2Proof.Machine.exec_ld_IX_nn nn s
  | .ld_mnn_IX nn => Sys2Proof.Machine.exec_ld_mnn_IX nn s
  | .inc_IX => Sys2Proof.Machine.exec_inc_IX s
  | .inc_IXH => Sys2Proof.Machine.exec_inc_IXH s
  | .dec_IXH => Sys2Proof.Machine.exec_dec_IXH s
  | .ld_IXH_n n => Sys2Proof.Machine.exec_ld_IXH_n n s
  | .add_IX_IX => Sys2Proof.Machine.exec_add_IX_IX s
  | .ld_IX_mnn nn => Sys2Proof.Machine.exec_ld_IX_mnn nn s
  | .dec_IX => Sys2Proof.Machine.exec_dec_IX s
  | .inc_IXL => Sys2Proof.Machine.exec_inc_IXL s
  | .dec_IXL => Sys2Proof.Machine.exec_dec_IXL s
  | .ld_IXL_n n => Sys2Proof.Machine.exec_ld_IXL_n n s
  | .inc_mIXd d => Sys2Proof.Machine.exec_inc_mIXd d s
  | .dec_mIXd d => Sys2Proof.Machine.exec_dec_mIXd d s
  | .ld_mIXd_n d n => Sys2Proof.Machine.exec_ld_mIXd_n d n s
  | .add_IX_SP => Sys2Proof.Machine.exec_add_IX_SP s
  | .ld_B_IXH => Sys2Proof.Machine.exec_ld_B_IXH s
  | .ld_B_IXL => Sys2Proof.Machine.exec_ld_B_IXL s
  | .ld_B_mIXd d => Sys2Proof.Machine.exec_ld_B_mIXd d s
  | .ld_C_IXH => Sys2Proof.Machine.exec_ld_C_IXH s
  | .ld_C_IXL => Sys2Proof.Machine.exec_ld_C_IXL s
  | .ld_C_mIXd d => Sys2Proof.Machine.exec_ld_C_mIXd d s
  | .ld_D_IXH => Sys2Proof.Machine.exec_ld_D_IXH s
  | .ld_D_IXL => Sys2Proof.Machine.exec_ld_D_IXL s
  | .ld_D_mIXd d => Sys2Proof.Machine.exec_ld_D_mIXd d s
  | .ld_E_IXH => Sys2Proof.Machine.exec_ld_E_IXH s
  | .ld_E_IXL => Sys2Proof.Machine.exec_ld_E_IXL s
  | .ld_E_mIXd d => Sys2Proof.Machine.exec_ld_E_mIXd d s
  | .ld_IXH_B => Sys2Proof.Machine.exec_ld_IXH_B s
  | .ld_IXH_C => Sys2Proof.Machine.exec_ld_IXH_C s
  | .ld_IXH_D => Sys2Proof.Machine.exec_ld_IXH_D s
  | .ld_IXH_E => Sys2Proof.Machine.exec_ld_IXH_E s
  | .ld_IXH_IXH => Sys2Proof.Machine.exec_ld_IXH_IXH s
  | .ld_IXH_IXL => Sys2Proof.Machine.exec_ld_IXH_IXL s
  | .ld_H_mIXd d => Sys2Proof.Machine.exec_ld_H_mIXd d s
  | .ld_IXH_A => Sys2Proof.Machine.exec_ld_IXH_A s
  | .ld_IXL_B => Sys2Proof.Machine.exec_ld_IXL_B s
  | .ld_IXL_C => Sys2Proof.Machine.exec_ld_IXL_C s
  | .ld_IXL_D => Sys2Proof.Machine.exec_ld_IXL_D s
  | .ld_IXL_E => Sys2Proof.Machine.exec_ld_IXL_E s
  | .ld_IXL_IXH => Sys2Proof.Machine.exec_ld_IXL_IXH s
  | .ld_IXL_IXL => Sys2Proof.Machine.exec_ld_IXL_IXL s
  | .ld_L_mIXd d => Sys2Proof.Machine.exec_ld_L_mIXd d s
  | .ld_IXL_A => Sys2Proof.Machine.exec_ld_IXL_A s
  | .ld_mIXd_B d => Sys2Proof.Machine.exec_ld_mIXd_B d s
  | .ld_mIXd_C d => Sys2Proof.Machine.exec_ld_mIXd_C d s
  | .ld_mIXd_D d => Sys2Proof.Machine.exec_ld_mIXd_D d s
  | .ld_mIXd_E d => Sys2Proof.Machine.exec_ld_mIXd_E d s
  | .ld_mIXd_H d => Sys2Proof.Machine.exec_ld_mIXd_H d s
  | .ld_mIXd_L d => Sys2Proof.Machine.exec_ld_mIXd_L d s
  | .ld_mIXd_A d => Sys2Proof.Machine.exec_ld_mIXd_A d s
  | .ld_A_IXH => Sys2Proof.Machine.exec_ld_A_IXH s
  | .ld_A_IXL => Sys2Proof.Machine.exec_ld_A_IXL s
  | .ld_A_mIXd d => Sys2Proof.Machine.exec_ld_A_mIXd d s
  | .add_A_IXH => Sys2Proof.Machine.exec_add_A_IXH s
  | .add_A_IXL => Sys2Proof.Machine.exec_add_A_IXL s
  | .add_A_mIXd d => Sys2Proof.Machine.exec_add_A_mIXd d s
  | .adc_A_IXH => Sys2Proof.Machine.exec_adc_A_IXH s
  | .adc_A_IXL => Sys2Proof.Machine.exec_adc_A_IXL s
  | .adc_A_mIXd d => Sys2Proof.Machine.exec_adc_A_mIXd d s
  | .sub_IXH => Sys2Proof.Machine.exec_sub_IXH s
  | .sub_IXL => Sys2Proof.Machine.exec_sub_IXL s
  | .sub_mIXd d => Sys2Proof.Machine.exec_sub_mIXd d s
  | .sbc_A_IXH => Sys2Proof.Machine.exec_sbc_A_IXH s
  | .sbc_A_IXL => Sys2Proof.Machine.exec_sbc_A_IXL s
  | .sbc_A_mIXd d => Sys2Proof.Machine.exec_sbc_A_mIXd d s
  | .and_IXH => Sys2Proof.Machine.exec_and_IXH s
  | .and_IXL => Sys2Proof.Machine.exec_and_IXL s
  | .and_mIXd d => Sys2Proof.Machine.exec_and_mIXd d s
  | .xor_IXH => Sys2Proof.Machine.exec_xor_IXH s
  | .xor_IXL => Sys2Proof.Machine.exec_xor_IXL s
  | .xor_mIXd d => Sys2Proof.Machine.exec_xor_mIXd d s
  | .or_IXH => Sys2Proof.Machine.exec_or_IXH s
  | .or_IXL => Sys2Proof.Machine.exec_or_IXL s
  | .or_mIXd d => Sys2Proof.Machine.exec_or_mIXd d s
  | .cp_IXH => Sys2Proof.Machine.exec_cp_IXH s
  | .cp_IXL => Sys2Proof.Machine.exec_cp_IXL s
  | .cp_mIXd d => Sys2Proof.Machine.exec_cp_mIXd d s
  | .pop_IX => Sys2Proof.Machine.exec_pop_IX s
  | .ex_mSP_IX => Sys2Proof.Machine.exec_ex_mSP_IX s
  | .push_IX => Sys2Proof.Machine.exec_push_IX s
  | .jp_mIX => Sys2Proof.Machine.exec_jp_mIX s
  | .ld_SP_IX => Sys2Proof.Machine.exec_ld_SP_IX s
  -- DD CB layer (R114)
  | .rlc_mIXd d => Sys2Proof.Machine.exec_rlc_mIXd d s
  | .rrc_mIXd d => Sys2Proof.Machine.exec_rrc_mIXd d s
  | .rl_mIXd d => Sys2Proof.Machine.exec_rl_mIXd d s
  | .rr_mIXd d => Sys2Proof.Machine.exec_rr_mIXd d s
  | .sla_mIXd d => Sys2Proof.Machine.exec_sla_mIXd d s
  | .sra_mIXd d => Sys2Proof.Machine.exec_sra_mIXd d s
  | .sll_mIXd d => Sys2Proof.Machine.exec_sll_mIXd d s
  | .srl_mIXd d => Sys2Proof.Machine.exec_srl_mIXd d s
  | .bit_0_mIXd d => Sys2Proof.Machine.exec_bit_0_mIXd d s
  | .bit_1_mIXd d => Sys2Proof.Machine.exec_bit_1_mIXd d s
  | .bit_2_mIXd d => Sys2Proof.Machine.exec_bit_2_mIXd d s
  | .bit_3_mIXd d => Sys2Proof.Machine.exec_bit_3_mIXd d s
  | .bit_4_mIXd d => Sys2Proof.Machine.exec_bit_4_mIXd d s
  | .bit_5_mIXd d => Sys2Proof.Machine.exec_bit_5_mIXd d s
  | .bit_6_mIXd d => Sys2Proof.Machine.exec_bit_6_mIXd d s
  | .bit_7_mIXd d => Sys2Proof.Machine.exec_bit_7_mIXd d s
  | .res_0_mIXd d => Sys2Proof.Machine.exec_res_0_mIXd d s
  | .res_1_mIXd d => Sys2Proof.Machine.exec_res_1_mIXd d s
  | .res_2_mIXd d => Sys2Proof.Machine.exec_res_2_mIXd d s
  | .res_3_mIXd d => Sys2Proof.Machine.exec_res_3_mIXd d s
  | .res_4_mIXd d => Sys2Proof.Machine.exec_res_4_mIXd d s
  | .res_5_mIXd d => Sys2Proof.Machine.exec_res_5_mIXd d s
  | .res_6_mIXd d => Sys2Proof.Machine.exec_res_6_mIXd d s
  | .res_7_mIXd d => Sys2Proof.Machine.exec_res_7_mIXd d s
  | .set_0_mIXd d => Sys2Proof.Machine.exec_set_0_mIXd d s
  | .set_1_mIXd d => Sys2Proof.Machine.exec_set_1_mIXd d s
  | .set_2_mIXd d => Sys2Proof.Machine.exec_set_2_mIXd d s
  | .set_3_mIXd d => Sys2Proof.Machine.exec_set_3_mIXd d s
  | .set_4_mIXd d => Sys2Proof.Machine.exec_set_4_mIXd d s
  | .set_5_mIXd d => Sys2Proof.Machine.exec_set_5_mIXd d s
  | .set_6_mIXd d => Sys2Proof.Machine.exec_set_6_mIXd d s
  | .set_7_mIXd d => Sys2Proof.Machine.exec_set_7_mIXd d s
  -- FD layer (R113)
  | .add_IY_BC => Sys2Proof.Machine.exec_add_IY_BC s
  | .add_IY_DE => Sys2Proof.Machine.exec_add_IY_DE s
  | .ld_IY_nn nn => Sys2Proof.Machine.exec_ld_IY_nn nn s
  | .ld_mnn_IY nn => Sys2Proof.Machine.exec_ld_mnn_IY nn s
  | .inc_IY => Sys2Proof.Machine.exec_inc_IY s
  | .inc_IYH => Sys2Proof.Machine.exec_inc_IYH s
  | .dec_IYH => Sys2Proof.Machine.exec_dec_IYH s
  | .ld_IYH_n n => Sys2Proof.Machine.exec_ld_IYH_n n s
  | .add_IY_IY => Sys2Proof.Machine.exec_add_IY_IY s
  | .ld_IY_mnn nn => Sys2Proof.Machine.exec_ld_IY_mnn nn s
  | .dec_IY => Sys2Proof.Machine.exec_dec_IY s
  | .inc_IYL => Sys2Proof.Machine.exec_inc_IYL s
  | .dec_IYL => Sys2Proof.Machine.exec_dec_IYL s
  | .ld_IYL_n n => Sys2Proof.Machine.exec_ld_IYL_n n s
  | .inc_mIYd d => Sys2Proof.Machine.exec_inc_mIYd d s
  | .dec_mIYd d => Sys2Proof.Machine.exec_dec_mIYd d s
  | .ld_mIYd_n d n => Sys2Proof.Machine.exec_ld_mIYd_n d n s
  | .add_IY_SP => Sys2Proof.Machine.exec_add_IY_SP s
  | .ld_B_IYH => Sys2Proof.Machine.exec_ld_B_IYH s
  | .ld_B_IYL => Sys2Proof.Machine.exec_ld_B_IYL s
  | .ld_B_mIYd d => Sys2Proof.Machine.exec_ld_B_mIYd d s
  | .ld_C_IYH => Sys2Proof.Machine.exec_ld_C_IYH s
  | .ld_C_IYL => Sys2Proof.Machine.exec_ld_C_IYL s
  | .ld_C_mIYd d => Sys2Proof.Machine.exec_ld_C_mIYd d s
  | .ld_D_IYH => Sys2Proof.Machine.exec_ld_D_IYH s
  | .ld_D_IYL => Sys2Proof.Machine.exec_ld_D_IYL s
  | .ld_D_mIYd d => Sys2Proof.Machine.exec_ld_D_mIYd d s
  | .ld_E_IYH => Sys2Proof.Machine.exec_ld_E_IYH s
  | .ld_E_IYL => Sys2Proof.Machine.exec_ld_E_IYL s
  | .ld_E_mIYd d => Sys2Proof.Machine.exec_ld_E_mIYd d s
  | .ld_IYH_B => Sys2Proof.Machine.exec_ld_IYH_B s
  | .ld_IYH_C => Sys2Proof.Machine.exec_ld_IYH_C s
  | .ld_IYH_D => Sys2Proof.Machine.exec_ld_IYH_D s
  | .ld_IYH_E => Sys2Proof.Machine.exec_ld_IYH_E s
  | .ld_IYH_IYH => Sys2Proof.Machine.exec_ld_IYH_IYH s
  | .ld_IYH_IYL => Sys2Proof.Machine.exec_ld_IYH_IYL s
  | .ld_H_mIYd d => Sys2Proof.Machine.exec_ld_H_mIYd d s
  | .ld_IYH_A => Sys2Proof.Machine.exec_ld_IYH_A s
  | .ld_IYL_B => Sys2Proof.Machine.exec_ld_IYL_B s
  | .ld_IYL_C => Sys2Proof.Machine.exec_ld_IYL_C s
  | .ld_IYL_D => Sys2Proof.Machine.exec_ld_IYL_D s
  | .ld_IYL_E => Sys2Proof.Machine.exec_ld_IYL_E s
  | .ld_IYL_IYH => Sys2Proof.Machine.exec_ld_IYL_IYH s
  | .ld_IYL_IYL => Sys2Proof.Machine.exec_ld_IYL_IYL s
  | .ld_L_mIYd d => Sys2Proof.Machine.exec_ld_L_mIYd d s
  | .ld_IYL_A => Sys2Proof.Machine.exec_ld_IYL_A s
  | .ld_mIYd_B d => Sys2Proof.Machine.exec_ld_mIYd_B d s
  | .ld_mIYd_C d => Sys2Proof.Machine.exec_ld_mIYd_C d s
  | .ld_mIYd_D d => Sys2Proof.Machine.exec_ld_mIYd_D d s
  | .ld_mIYd_E d => Sys2Proof.Machine.exec_ld_mIYd_E d s
  | .ld_mIYd_H d => Sys2Proof.Machine.exec_ld_mIYd_H d s
  | .ld_mIYd_L d => Sys2Proof.Machine.exec_ld_mIYd_L d s
  | .ld_mIYd_A d => Sys2Proof.Machine.exec_ld_mIYd_A d s
  | .ld_A_IYH => Sys2Proof.Machine.exec_ld_A_IYH s
  | .ld_A_IYL => Sys2Proof.Machine.exec_ld_A_IYL s
  | .ld_A_mIYd d => Sys2Proof.Machine.exec_ld_A_mIYd d s
  | .add_A_IYH => Sys2Proof.Machine.exec_add_A_IYH s
  | .add_A_IYL => Sys2Proof.Machine.exec_add_A_IYL s
  | .add_A_mIYd d => Sys2Proof.Machine.exec_add_A_mIYd d s
  | .adc_A_IYH => Sys2Proof.Machine.exec_adc_A_IYH s
  | .adc_A_IYL => Sys2Proof.Machine.exec_adc_A_IYL s
  | .adc_A_mIYd d => Sys2Proof.Machine.exec_adc_A_mIYd d s
  | .sub_IYH => Sys2Proof.Machine.exec_sub_IYH s
  | .sub_IYL => Sys2Proof.Machine.exec_sub_IYL s
  | .sub_mIYd d => Sys2Proof.Machine.exec_sub_mIYd d s
  | .sbc_A_IYH => Sys2Proof.Machine.exec_sbc_A_IYH s
  | .sbc_A_IYL => Sys2Proof.Machine.exec_sbc_A_IYL s
  | .sbc_A_mIYd d => Sys2Proof.Machine.exec_sbc_A_mIYd d s
  | .and_IYH => Sys2Proof.Machine.exec_and_IYH s
  | .and_IYL => Sys2Proof.Machine.exec_and_IYL s
  | .and_mIYd d => Sys2Proof.Machine.exec_and_mIYd d s
  | .xor_IYH => Sys2Proof.Machine.exec_xor_IYH s
  | .xor_IYL => Sys2Proof.Machine.exec_xor_IYL s
  | .xor_mIYd d => Sys2Proof.Machine.exec_xor_mIYd d s
  | .or_IYH => Sys2Proof.Machine.exec_or_IYH s
  | .or_IYL => Sys2Proof.Machine.exec_or_IYL s
  | .or_mIYd d => Sys2Proof.Machine.exec_or_mIYd d s
  | .cp_IYH => Sys2Proof.Machine.exec_cp_IYH s
  | .cp_IYL => Sys2Proof.Machine.exec_cp_IYL s
  | .cp_mIYd d => Sys2Proof.Machine.exec_cp_mIYd d s
  | .pop_IY => Sys2Proof.Machine.exec_pop_IY s
  | .ex_mSP_IY => Sys2Proof.Machine.exec_ex_mSP_IY s
  | .push_IY => Sys2Proof.Machine.exec_push_IY s
  | .jp_mIY => Sys2Proof.Machine.exec_jp_mIY s
  | .ld_SP_IY => Sys2Proof.Machine.exec_ld_SP_IY s
  -- FD CB layer (R114)
  | .rlc_mIYd d => Sys2Proof.Machine.exec_rlc_mIYd d s
  | .rrc_mIYd d => Sys2Proof.Machine.exec_rrc_mIYd d s
  | .rl_mIYd d => Sys2Proof.Machine.exec_rl_mIYd d s
  | .rr_mIYd d => Sys2Proof.Machine.exec_rr_mIYd d s
  | .sla_mIYd d => Sys2Proof.Machine.exec_sla_mIYd d s
  | .sra_mIYd d => Sys2Proof.Machine.exec_sra_mIYd d s
  | .sll_mIYd d => Sys2Proof.Machine.exec_sll_mIYd d s
  | .srl_mIYd d => Sys2Proof.Machine.exec_srl_mIYd d s
  | .bit_0_mIYd d => Sys2Proof.Machine.exec_bit_0_mIYd d s
  | .bit_1_mIYd d => Sys2Proof.Machine.exec_bit_1_mIYd d s
  | .bit_2_mIYd d => Sys2Proof.Machine.exec_bit_2_mIYd d s
  | .bit_3_mIYd d => Sys2Proof.Machine.exec_bit_3_mIYd d s
  | .bit_4_mIYd d => Sys2Proof.Machine.exec_bit_4_mIYd d s
  | .bit_5_mIYd d => Sys2Proof.Machine.exec_bit_5_mIYd d s
  | .bit_6_mIYd d => Sys2Proof.Machine.exec_bit_6_mIYd d s
  | .bit_7_mIYd d => Sys2Proof.Machine.exec_bit_7_mIYd d s
  | .res_0_mIYd d => Sys2Proof.Machine.exec_res_0_mIYd d s
  | .res_1_mIYd d => Sys2Proof.Machine.exec_res_1_mIYd d s
  | .res_2_mIYd d => Sys2Proof.Machine.exec_res_2_mIYd d s
  | .res_3_mIYd d => Sys2Proof.Machine.exec_res_3_mIYd d s
  | .res_4_mIYd d => Sys2Proof.Machine.exec_res_4_mIYd d s
  | .res_5_mIYd d => Sys2Proof.Machine.exec_res_5_mIYd d s
  | .res_6_mIYd d => Sys2Proof.Machine.exec_res_6_mIYd d s
  | .res_7_mIYd d => Sys2Proof.Machine.exec_res_7_mIYd d s
  | .set_0_mIYd d => Sys2Proof.Machine.exec_set_0_mIYd d s
  | .set_1_mIYd d => Sys2Proof.Machine.exec_set_1_mIYd d s
  | .set_2_mIYd d => Sys2Proof.Machine.exec_set_2_mIYd d s
  | .set_3_mIYd d => Sys2Proof.Machine.exec_set_3_mIYd d s
  | .set_4_mIYd d => Sys2Proof.Machine.exec_set_4_mIYd d s
  | .set_5_mIYd d => Sys2Proof.Machine.exec_set_5_mIYd d s
  | .set_6_mIYd d => Sys2Proof.Machine.exec_set_6_mIYd d s
  | .set_7_mIYd d => Sys2Proof.Machine.exec_set_7_mIYd d s

end Sys2Proof.Machine
end

