-- ==== Sys2Proof/WellFormed.lean ====
section
/-! DEFINITION. Which instructions the encoding admits: a displacement or a relative offset is "a signed 8-bit displacement in
[-128,127]" (30_encoding.md R104). Every other operand has its width in its type. -/

namespace Sys2Proof

/-- The signed 8-bit operand of an instruction that has one: `d` or `e` (R104). -/
def Instr.signedOperand (i : Instr) : Option Int :=
  match i with
  | .djnz_e e | .jr_e e | .jr_NZ_e e | .jr_Z_e e | .jr_NC_e e | .jr_C_e e => some e
  | .inc_mIXd d | .dec_mIXd d | .ld_B_mIXd d | .ld_C_mIXd d | .ld_D_mIXd d | .ld_E_mIXd d | .ld_H_mIXd d | .ld_L_mIXd d
  | .ld_mIXd_B d | .ld_mIXd_C d | .ld_mIXd_D d | .ld_mIXd_E d | .ld_mIXd_H d | .ld_mIXd_L d | .ld_mIXd_A d | .ld_A_mIXd d
  | .add_A_mIXd d | .adc_A_mIXd d | .sub_mIXd d | .sbc_A_mIXd d | .and_mIXd d | .xor_mIXd d | .or_mIXd d | .cp_mIXd d
  | .rlc_mIXd d | .rrc_mIXd d | .rl_mIXd d | .rr_mIXd d | .sla_mIXd d | .sra_mIXd d | .sll_mIXd d | .srl_mIXd d
  | .bit_0_mIXd d | .bit_1_mIXd d | .bit_2_mIXd d | .bit_3_mIXd d | .bit_4_mIXd d | .bit_5_mIXd d | .bit_6_mIXd d
  | .bit_7_mIXd d | .res_0_mIXd d | .res_1_mIXd d | .res_2_mIXd d | .res_3_mIXd d | .res_4_mIXd d | .res_5_mIXd d
  | .res_6_mIXd d | .res_7_mIXd d | .set_0_mIXd d | .set_1_mIXd d | .set_2_mIXd d | .set_3_mIXd d | .set_4_mIXd d
  | .set_5_mIXd d | .set_6_mIXd d | .set_7_mIXd d | .inc_mIYd d | .dec_mIYd d | .ld_B_mIYd d | .ld_C_mIYd d | .ld_D_mIYd d
  | .ld_E_mIYd d | .ld_H_mIYd d | .ld_L_mIYd d | .ld_mIYd_B d | .ld_mIYd_C d | .ld_mIYd_D d | .ld_mIYd_E d | .ld_mIYd_H d
  | .ld_mIYd_L d | .ld_mIYd_A d | .ld_A_mIYd d | .add_A_mIYd d | .adc_A_mIYd d | .sub_mIYd d | .sbc_A_mIYd d | .and_mIYd d
  | .xor_mIYd d | .or_mIYd d | .cp_mIYd d | .rlc_mIYd d | .rrc_mIYd d | .rl_mIYd d | .rr_mIYd d | .sla_mIYd d | .sra_mIYd d
  | .sll_mIYd d | .srl_mIYd d | .bit_0_mIYd d | .bit_1_mIYd d | .bit_2_mIYd d | .bit_3_mIYd d | .bit_4_mIYd d
  | .bit_5_mIYd d | .bit_6_mIYd d | .bit_7_mIYd d | .res_0_mIYd d | .res_1_mIYd d | .res_2_mIYd d | .res_3_mIYd d
  | .res_4_mIYd d | .res_5_mIYd d | .res_6_mIYd d | .res_7_mIYd d | .set_0_mIYd d | .set_1_mIYd d | .set_2_mIYd d
  | .set_3_mIYd d | .set_4_mIYd d | .set_5_mIYd d | .set_6_mIYd d | .set_7_mIYd d => some d
  | .ld_mIXd_n d _ | .ld_mIYd_n d _ => some d
  | .nop | .ld_BC_nn _ | .ld_mBC_A | .inc_BC | .inc_B | .dec_B | .ld_B_n _ | .rlca | .ex_AF_AF | .add_HL_BC | .ld_A_mBC
  | .dec_BC | .inc_C | .dec_C | .ld_C_n _ | .rrca | .ld_DE_nn _ | .ld_mDE_A | .inc_DE | .inc_D | .dec_D | .ld_D_n _ | .rla
  | .add_HL_DE | .ld_A_mDE | .dec_DE | .inc_E | .dec_E | .ld_E_n _ | .rra | .ld_HL_nn _ | .ld_mnn_HL _ | .inc_HL | .inc_H
  | .dec_H | .ld_H_n _ | .daa | .add_HL_HL | .ld_HL_mnn _ | .dec_HL | .inc_L | .dec_L | .ld_L_n _ | .cpl | .ld_SP_nn _
  | .ld_mnn_A _ | .inc_SP | .inc_mHL | .dec_mHL | .ld_mHL_n _ | .scf | .add_HL_SP | .ld_A_mnn _ | .dec_SP | .inc_A | .dec_A
  | .ld_A_n _ | .ccf | .ld_B_B | .ld_B_C | .ld_B_D | .ld_B_E | .ld_B_H | .ld_B_L | .ld_B_mHL | .ld_B_A | .ld_C_B | .ld_C_C
  | .ld_C_D | .ld_C_E | .ld_C_H | .ld_C_L | .ld_C_mHL | .ld_C_A | .ld_D_B | .ld_D_C | .ld_D_D | .ld_D_E | .ld_D_H | .ld_D_L
  | .ld_D_mHL | .ld_D_A | .ld_E_B | .ld_E_C | .ld_E_D | .ld_E_E | .ld_E_H | .ld_E_L | .ld_E_mHL | .ld_E_A | .ld_H_B
  | .ld_H_C | .ld_H_D | .ld_H_E | .ld_H_H | .ld_H_L | .ld_H_mHL | .ld_H_A | .ld_L_B | .ld_L_C | .ld_L_D | .ld_L_E | .ld_L_H
  | .ld_L_L | .ld_L_mHL | .ld_L_A | .ld_mHL_B | .ld_mHL_C | .ld_mHL_D | .ld_mHL_E | .ld_mHL_H | .ld_mHL_L | .halt
  | .ld_mHL_A | .ld_A_B | .ld_A_C | .ld_A_D | .ld_A_E | .ld_A_H | .ld_A_L | .ld_A_mHL | .ld_A_A | .add_A_B | .add_A_C
  | .add_A_D | .add_A_E | .add_A_H | .add_A_L | .add_A_mHL | .add_A_A | .adc_A_B | .adc_A_C | .adc_A_D | .adc_A_E
  | .adc_A_H | .adc_A_L | .adc_A_mHL | .adc_A_A | .sub_B | .sub_C | .sub_D | .sub_E | .sub_H | .sub_L | .sub_mHL | .sub_A
  | .sbc_A_B | .sbc_A_C | .sbc_A_D | .sbc_A_E | .sbc_A_H | .sbc_A_L | .sbc_A_mHL | .sbc_A_A | .and_B | .and_C | .and_D
  | .and_E | .and_H | .and_L | .and_mHL | .and_A | .xor_B | .xor_C | .xor_D | .xor_E | .xor_H | .xor_L | .xor_mHL | .xor_A
  | .or_B | .or_C | .or_D | .or_E | .or_H | .or_L | .or_mHL | .or_A | .cp_B | .cp_C | .cp_D | .cp_E | .cp_H | .cp_L
  | .cp_mHL | .cp_A | .ret_NZ | .pop_BC | .jp_NZ_nn _ | .jp_nn _ | .call_NZ_nn _ | .push_BC | .add_A_n _ | .rst_00 | .ret_Z
  | .ret | .jp_Z_nn _ | .call_Z_nn _ | .call_nn _ | .adc_A_n _ | .rst_08 | .ret_NC | .pop_DE | .jp_NC_nn _ | .out_mn_A _
  | .call_NC_nn _ | .push_DE | .sub_n _ | .rst_10 | .ret_C | .exx | .jp_C_nn _ | .in_A_mn _ | .call_C_nn _ | .sbc_A_n _
  | .rst_18 | .ret_PO | .pop_HL | .jp_PO_nn _ | .ex_mSP_HL | .call_PO_nn _ | .push_HL | .and_n _ | .rst_20 | .ret_PE
  | .jp_mHL | .jp_PE_nn _ | .ex_DE_HL | .call_PE_nn _ | .xor_n _ | .rst_28 | .ret_P | .pop_AF | .jp_P_nn _ | .di
  | .call_P_nn _ | .push_AF | .or_n _ | .rst_30 | .ret_M | .ld_SP_HL | .jp_M_nn _ | .ei | .call_M_nn _ | .cp_n _ | .rst_38
  | .rlc_B | .rlc_C | .rlc_D | .rlc_E | .rlc_H | .rlc_L | .rlc_mHL | .rlc_A | .rrc_B | .rrc_C | .rrc_D | .rrc_E | .rrc_H
  | .rrc_L | .rrc_mHL | .rrc_A | .rl_B | .rl_C | .rl_D | .rl_E | .rl_H | .rl_L | .rl_mHL | .rl_A | .rr_B | .rr_C | .rr_D
  | .rr_E | .rr_H | .rr_L | .rr_mHL | .rr_A | .sla_B | .sla_C | .sla_D | .sla_E | .sla_H | .sla_L | .sla_mHL | .sla_A
  | .sra_B | .sra_C | .sra_D | .sra_E | .sra_H | .sra_L | .sra_mHL | .sra_A | .sll_B | .sll_C | .sll_D | .sll_E | .sll_H
  | .sll_L | .sll_mHL | .sll_A | .srl_B | .srl_C | .srl_D | .srl_E | .srl_H | .srl_L | .srl_mHL | .srl_A | .bit_0_B
  | .bit_0_C | .bit_0_D | .bit_0_E | .bit_0_H | .bit_0_L | .bit_0_mHL | .bit_0_A | .bit_1_B | .bit_1_C | .bit_1_D
  | .bit_1_E | .bit_1_H | .bit_1_L | .bit_1_mHL | .bit_1_A | .bit_2_B | .bit_2_C | .bit_2_D | .bit_2_E | .bit_2_H
  | .bit_2_L | .bit_2_mHL | .bit_2_A | .bit_3_B | .bit_3_C | .bit_3_D | .bit_3_E | .bit_3_H | .bit_3_L | .bit_3_mHL
  | .bit_3_A | .bit_4_B | .bit_4_C | .bit_4_D | .bit_4_E | .bit_4_H | .bit_4_L | .bit_4_mHL | .bit_4_A | .bit_5_B
  | .bit_5_C | .bit_5_D | .bit_5_E | .bit_5_H | .bit_5_L | .bit_5_mHL | .bit_5_A | .bit_6_B | .bit_6_C | .bit_6_D
  | .bit_6_E | .bit_6_H | .bit_6_L | .bit_6_mHL | .bit_6_A | .bit_7_B | .bit_7_C | .bit_7_D | .bit_7_E | .bit_7_H
  | .bit_7_L | .bit_7_mHL | .bit_7_A | .res_0_B | .res_0_C | .res_0_D | .res_0_E | .res_0_H | .res_0_L | .res_0_mHL
  | .res_0_A | .res_1_B | .res_1_C | .res_1_D | .res_1_E | .res_1_H | .res_1_L | .res_1_mHL | .res_1_A | .res_2_B
  | .res_2_C | .res_2_D | .res_2_E | .res_2_H | .res_2_L | .res_2_mHL | .res_2_A | .res_3_B | .res_3_C | .res_3_D
  | .res_3_E | .res_3_H | .res_3_L | .res_3_mHL | .res_3_A | .res_4_B | .res_4_C | .res_4_D | .res_4_E | .res_4_H
  | .res_4_L | .res_4_mHL | .res_4_A | .res_5_B | .res_5_C | .res_5_D | .res_5_E | .res_5_H | .res_5_L | .res_5_mHL
  | .res_5_A | .res_6_B | .res_6_C | .res_6_D | .res_6_E | .res_6_H | .res_6_L | .res_6_mHL | .res_6_A | .res_7_B
  | .res_7_C | .res_7_D | .res_7_E | .res_7_H | .res_7_L | .res_7_mHL | .res_7_A | .set_0_B | .set_0_C | .set_0_D
  | .set_0_E | .set_0_H | .set_0_L | .set_0_mHL | .set_0_A | .set_1_B | .set_1_C | .set_1_D | .set_1_E | .set_1_H
  | .set_1_L | .set_1_mHL | .set_1_A | .set_2_B | .set_2_C | .set_2_D | .set_2_E | .set_2_H | .set_2_L | .set_2_mHL
  | .set_2_A | .set_3_B | .set_3_C | .set_3_D | .set_3_E | .set_3_H | .set_3_L | .set_3_mHL | .set_3_A | .set_4_B
  | .set_4_C | .set_4_D | .set_4_E | .set_4_H | .set_4_L | .set_4_mHL | .set_4_A | .set_5_B | .set_5_C | .set_5_D
  | .set_5_E | .set_5_H | .set_5_L | .set_5_mHL | .set_5_A | .set_6_B | .set_6_C | .set_6_D | .set_6_E | .set_6_H
  | .set_6_L | .set_6_mHL | .set_6_A | .set_7_B | .set_7_C | .set_7_D | .set_7_E | .set_7_H | .set_7_L | .set_7_mHL
  | .set_7_A | .in_B_mC | .out_mC_B | .sbc_HL_BC | .ld_mnn_BC _ | .neg | .retn | .im_0 | .ld_I_A | .in_C_mC | .out_mC_C
  | .adc_HL_BC | .ld_BC_mnn _ | .reti | .ld_R_A | .in_D_mC | .out_mC_D | .sbc_HL_DE | .ld_mnn_DE _ | .im_1 | .ld_A_I
  | .in_E_mC | .out_mC_E | .adc_HL_DE | .ld_DE_mnn _ | .im_2 | .ld_A_R | .in_H_mC | .out_mC_H | .sbc_HL_HL
  | .ld_mnn_HL_ed _ | .rrd | .in_L_mC | .out_mC_L | .adc_HL_HL | .ld_HL_mnn_ed _ | .rld | .sbc_HL_SP | .ld_mnn_SP _
  | .in_A_mC | .out_mC_A | .adc_HL_SP | .ld_SP_mnn _ | .ldi | .cpi | .ini | .outi | .ldd | .cpd | .ind | .outd | .ldir
  | .cpir | .inir | .otir | .lddr | .cpdr | .indr | .otdr | .add_IX_BC | .add_IX_DE | .ld_IX_nn _ | .ld_mnn_IX _ | .inc_IX
  | .inc_IXH | .dec_IXH | .ld_IXH_n _ | .add_IX_IX | .ld_IX_mnn _ | .dec_IX | .inc_IXL | .dec_IXL | .ld_IXL_n _
  | .add_IX_SP | .ld_B_IXH | .ld_B_IXL | .ld_C_IXH | .ld_C_IXL | .ld_D_IXH | .ld_D_IXL | .ld_E_IXH | .ld_E_IXL | .ld_IXH_B
  | .ld_IXH_C | .ld_IXH_D | .ld_IXH_E | .ld_IXH_IXH | .ld_IXH_IXL | .ld_IXH_A | .ld_IXL_B | .ld_IXL_C | .ld_IXL_D
  | .ld_IXL_E | .ld_IXL_IXH | .ld_IXL_IXL | .ld_IXL_A | .ld_A_IXH | .ld_A_IXL | .add_A_IXH | .add_A_IXL | .adc_A_IXH
  | .adc_A_IXL | .sub_IXH | .sub_IXL | .sbc_A_IXH | .sbc_A_IXL | .and_IXH | .and_IXL | .xor_IXH | .xor_IXL | .or_IXH
  | .or_IXL | .cp_IXH | .cp_IXL | .pop_IX | .ex_mSP_IX | .push_IX | .jp_mIX | .ld_SP_IX | .add_IY_BC | .add_IY_DE
  | .ld_IY_nn _ | .ld_mnn_IY _ | .inc_IY | .inc_IYH | .dec_IYH | .ld_IYH_n _ | .add_IY_IY | .ld_IY_mnn _ | .dec_IY
  | .inc_IYL | .dec_IYL | .ld_IYL_n _ | .add_IY_SP | .ld_B_IYH | .ld_B_IYL | .ld_C_IYH | .ld_C_IYL | .ld_D_IYH | .ld_D_IYL
  | .ld_E_IYH | .ld_E_IYL | .ld_IYH_B | .ld_IYH_C | .ld_IYH_D | .ld_IYH_E | .ld_IYH_IYH | .ld_IYH_IYL | .ld_IYH_A
  | .ld_IYL_B | .ld_IYL_C | .ld_IYL_D | .ld_IYL_E | .ld_IYL_IYH | .ld_IYL_IYL | .ld_IYL_A | .ld_A_IYH | .ld_A_IYL
  | .add_A_IYH | .add_A_IYL | .adc_A_IYH | .adc_A_IYL | .sub_IYH | .sub_IYL | .sbc_A_IYH | .sbc_A_IYL | .and_IYH | .and_IYL
  | .xor_IYH | .xor_IYL | .or_IYH | .or_IYL | .cp_IYH | .cp_IYL | .pop_IY | .ex_mSP_IY | .push_IY | .jp_mIY | .ld_SP_IY => none

/-- The range of a signed 8-bit operand (R104). -/
def signedInRange (d : Int) : Bool := decide (-128 ≤ d) && decide (d ≤ 127)

/-- Well-formedness: the signed operand, if there is one, lies in its range (R104). -/
def Instr.wellFormed (i : Instr) : Bool :=
  match i.signedOperand with
  | none => true
  | some d => signedInRange d

end Sys2Proof
end

