-- ==== Sys2Proof/Decode.lean ====
section
/-! DEFINITION. The decoder: the five opcode maps of 30_encoding.md (R110 to R114), row by row as the spec prints them (row = high
nibble, column = low nibble), and the decode layers over them (R94). Then the encoder, one line per row of the opcode table. -/

namespace Sys2Proof

/-- Why a byte sequence is no instruction. -/
inductive Reject where
  /-- ED followed by a byte the ED layer does not define (R99). -/
  | edUndefined (op : Byte)
  /-- DD or FD followed by a byte that has no index form, a second lead byte among them (R102, R103). -/
  | noIndexForm (lead op : Byte)
  /-- DD CB d or FD CB d followed by a byte whose low three bits are not 6 (R101). -/
  | indexedCbUndefined (lead d op : Byte)
  /-- The given bytes end inside an instruction. Never where four bytes are given (R90). -/
  | truncated
deriving DecidableEq, Repr

/-- The bytes a DecodeError carries: those fetched so far (R106). -/
def Reject.bytes (r : Reject) : List Byte :=
  match r with
  | .edUndefined op => [0xED, op]
  | .noIndexForm lead op => [lead, op]
  | .indexedCbUndefined lead d op => [lead, 0xCB, d, op]
  | .truncated => []

/-- One cell of an opcode map: what the opcode byte selects and which operand bytes follow it (R91). -/
inductive Entry where
  /-- No operand byte: formats B1, CB2, ED2, X2. -/
  | op (i : Instr)
  /-- An immediate byte: B2n, X3n. -/
  | opN (f : Byte → Instr)
  /-- A signed byte, `e` or `d`: B2e, X3d; XCB4, whose `d` stands before the opcode byte. -/
  | opS (f : Int → Instr)
  /-- A signed byte, then an immediate byte: X4dn. -/
  | opSN (f : Int → Byte → Instr)
  /-- An immediate word, low byte first: B3nn, ED4nn, X4nn. -/
  | opNN (f : Word → Instr)
  /-- The byte enters another layer. -/
  | lead
  /-- A cell marked as a DecodeError. -/
  | bad

/-- The cell of a map at an opcode byte. -/
def gridAt (g : List (List Entry)) (op : Byte) : Entry := (g.getD (op.toNat / 16) []).getD (op.toNat % 16) .bad

def baseRow0 : List Entry :=
  [.op .nop, .opNN .ld_BC_nn, .op .ld_mBC_A, .op .inc_BC, .op .inc_B, .op .dec_B, .opN .ld_B_n, .op .rlca, .op .ex_AF_AF,
  .op .add_HL_BC, .op .ld_A_mBC, .op .dec_BC, .op .inc_C, .op .dec_C, .opN .ld_C_n, .op .rrca]

def baseRow1 : List Entry :=
  [.opS .djnz_e, .opNN .ld_DE_nn, .op .ld_mDE_A, .op .inc_DE, .op .inc_D, .op .dec_D, .opN .ld_D_n, .op .rla, .opS .jr_e,
  .op .add_HL_DE, .op .ld_A_mDE, .op .dec_DE, .op .inc_E, .op .dec_E, .opN .ld_E_n, .op .rra]

def baseRow2 : List Entry :=
  [.opS .jr_NZ_e, .opNN .ld_HL_nn, .opNN .ld_mnn_HL, .op .inc_HL, .op .inc_H, .op .dec_H, .opN .ld_H_n, .op .daa,
  .opS .jr_Z_e, .op .add_HL_HL, .opNN .ld_HL_mnn, .op .dec_HL, .op .inc_L, .op .dec_L, .opN .ld_L_n, .op .cpl]

def baseRow3 : List Entry :=
  [.opS .jr_NC_e, .opNN .ld_SP_nn, .opNN .ld_mnn_A, .op .inc_SP, .op .inc_mHL, .op .dec_mHL, .opN .ld_mHL_n, .op .scf,
  .opS .jr_C_e, .op .add_HL_SP, .opNN .ld_A_mnn, .op .dec_SP, .op .inc_A, .op .dec_A, .opN .ld_A_n, .op .ccf]

def baseRow4 : List Entry :=
  [.op .ld_B_B, .op .ld_B_C, .op .ld_B_D, .op .ld_B_E, .op .ld_B_H, .op .ld_B_L, .op .ld_B_mHL, .op .ld_B_A, .op .ld_C_B,
  .op .ld_C_C, .op .ld_C_D, .op .ld_C_E, .op .ld_C_H, .op .ld_C_L, .op .ld_C_mHL, .op .ld_C_A]

def baseRow5 : List Entry :=
  [.op .ld_D_B, .op .ld_D_C, .op .ld_D_D, .op .ld_D_E, .op .ld_D_H, .op .ld_D_L, .op .ld_D_mHL, .op .ld_D_A, .op .ld_E_B,
  .op .ld_E_C, .op .ld_E_D, .op .ld_E_E, .op .ld_E_H, .op .ld_E_L, .op .ld_E_mHL, .op .ld_E_A]

def baseRow6 : List Entry :=
  [.op .ld_H_B, .op .ld_H_C, .op .ld_H_D, .op .ld_H_E, .op .ld_H_H, .op .ld_H_L, .op .ld_H_mHL, .op .ld_H_A, .op .ld_L_B,
  .op .ld_L_C, .op .ld_L_D, .op .ld_L_E, .op .ld_L_H, .op .ld_L_L, .op .ld_L_mHL, .op .ld_L_A]

def baseRow7 : List Entry :=
  [.op .ld_mHL_B, .op .ld_mHL_C, .op .ld_mHL_D, .op .ld_mHL_E, .op .ld_mHL_H, .op .ld_mHL_L, .op .halt, .op .ld_mHL_A,
  .op .ld_A_B, .op .ld_A_C, .op .ld_A_D, .op .ld_A_E, .op .ld_A_H, .op .ld_A_L, .op .ld_A_mHL, .op .ld_A_A]

def baseRow8 : List Entry :=
  [.op .add_A_B, .op .add_A_C, .op .add_A_D, .op .add_A_E, .op .add_A_H, .op .add_A_L, .op .add_A_mHL, .op .add_A_A,
  .op .adc_A_B, .op .adc_A_C, .op .adc_A_D, .op .adc_A_E, .op .adc_A_H, .op .adc_A_L, .op .adc_A_mHL, .op .adc_A_A]

def baseRow9 : List Entry :=
  [.op .sub_B, .op .sub_C, .op .sub_D, .op .sub_E, .op .sub_H, .op .sub_L, .op .sub_mHL, .op .sub_A, .op .sbc_A_B,
  .op .sbc_A_C, .op .sbc_A_D, .op .sbc_A_E, .op .sbc_A_H, .op .sbc_A_L, .op .sbc_A_mHL, .op .sbc_A_A]

def baseRowA : List Entry :=
  [.op .and_B, .op .and_C, .op .and_D, .op .and_E, .op .and_H, .op .and_L, .op .and_mHL, .op .and_A, .op .xor_B,
  .op .xor_C, .op .xor_D, .op .xor_E, .op .xor_H, .op .xor_L, .op .xor_mHL, .op .xor_A]

def baseRowB : List Entry :=
  [.op .or_B, .op .or_C, .op .or_D, .op .or_E, .op .or_H, .op .or_L, .op .or_mHL, .op .or_A, .op .cp_B, .op .cp_C,
  .op .cp_D, .op .cp_E, .op .cp_H, .op .cp_L, .op .cp_mHL, .op .cp_A]

def baseRowC : List Entry :=
  [.op .ret_NZ, .op .pop_BC, .opNN .jp_NZ_nn, .opNN .jp_nn, .opNN .call_NZ_nn, .op .push_BC, .opN .add_A_n, .op .rst_00,
  .op .ret_Z, .op .ret, .opNN .jp_Z_nn, .lead, .opNN .call_Z_nn, .opNN .call_nn, .opN .adc_A_n, .op .rst_08]

def baseRowD : List Entry :=
  [.op .ret_NC, .op .pop_DE, .opNN .jp_NC_nn, .opN .out_mn_A, .opNN .call_NC_nn, .op .push_DE, .opN .sub_n, .op .rst_10,
  .op .ret_C, .op .exx, .opNN .jp_C_nn, .opN .in_A_mn, .opNN .call_C_nn, .lead, .opN .sbc_A_n, .op .rst_18]

def baseRowE : List Entry :=
  [.op .ret_PO, .op .pop_HL, .opNN .jp_PO_nn, .op .ex_mSP_HL, .opNN .call_PO_nn, .op .push_HL, .opN .and_n, .op .rst_20,
  .op .ret_PE, .op .jp_mHL, .opNN .jp_PE_nn, .op .ex_DE_HL, .opNN .call_PE_nn, .lead, .opN .xor_n, .op .rst_28]

def baseRowF : List Entry :=
  [.op .ret_P, .op .pop_AF, .opNN .jp_P_nn, .op .di, .opNN .call_P_nn, .op .push_AF, .opN .or_n, .op .rst_30, .op .ret_M,
  .op .ld_SP_HL, .opNN .jp_M_nn, .op .ei, .opNN .call_M_nn, .lead, .opN .cp_n, .op .rst_38]

/-- The base layer map (R110). -/
def baseGrid : List (List Entry) :=
  [baseRow0, baseRow1, baseRow2, baseRow3, baseRow4, baseRow5, baseRow6, baseRow7, baseRow8, baseRow9, baseRowA, baseRowB,
  baseRowC, baseRowD, baseRowE, baseRowF]

def cbRow0 : List Entry :=
  [.op .rlc_B, .op .rlc_C, .op .rlc_D, .op .rlc_E, .op .rlc_H, .op .rlc_L, .op .rlc_mHL, .op .rlc_A, .op .rrc_B,
  .op .rrc_C, .op .rrc_D, .op .rrc_E, .op .rrc_H, .op .rrc_L, .op .rrc_mHL, .op .rrc_A]

def cbRow1 : List Entry :=
  [.op .rl_B, .op .rl_C, .op .rl_D, .op .rl_E, .op .rl_H, .op .rl_L, .op .rl_mHL, .op .rl_A, .op .rr_B, .op .rr_C,
  .op .rr_D, .op .rr_E, .op .rr_H, .op .rr_L, .op .rr_mHL, .op .rr_A]

def cbRow2 : List Entry :=
  [.op .sla_B, .op .sla_C, .op .sla_D, .op .sla_E, .op .sla_H, .op .sla_L, .op .sla_mHL, .op .sla_A, .op .sra_B,
  .op .sra_C, .op .sra_D, .op .sra_E, .op .sra_H, .op .sra_L, .op .sra_mHL, .op .sra_A]

def cbRow3 : List Entry :=
  [.op .sll_B, .op .sll_C, .op .sll_D, .op .sll_E, .op .sll_H, .op .sll_L, .op .sll_mHL, .op .sll_A, .op .srl_B,
  .op .srl_C, .op .srl_D, .op .srl_E, .op .srl_H, .op .srl_L, .op .srl_mHL, .op .srl_A]

def cbRow4 : List Entry :=
  [.op .bit_0_B, .op .bit_0_C, .op .bit_0_D, .op .bit_0_E, .op .bit_0_H, .op .bit_0_L, .op .bit_0_mHL, .op .bit_0_A,
  .op .bit_1_B, .op .bit_1_C, .op .bit_1_D, .op .bit_1_E, .op .bit_1_H, .op .bit_1_L, .op .bit_1_mHL, .op .bit_1_A]

def cbRow5 : List Entry :=
  [.op .bit_2_B, .op .bit_2_C, .op .bit_2_D, .op .bit_2_E, .op .bit_2_H, .op .bit_2_L, .op .bit_2_mHL, .op .bit_2_A,
  .op .bit_3_B, .op .bit_3_C, .op .bit_3_D, .op .bit_3_E, .op .bit_3_H, .op .bit_3_L, .op .bit_3_mHL, .op .bit_3_A]

def cbRow6 : List Entry :=
  [.op .bit_4_B, .op .bit_4_C, .op .bit_4_D, .op .bit_4_E, .op .bit_4_H, .op .bit_4_L, .op .bit_4_mHL, .op .bit_4_A,
  .op .bit_5_B, .op .bit_5_C, .op .bit_5_D, .op .bit_5_E, .op .bit_5_H, .op .bit_5_L, .op .bit_5_mHL, .op .bit_5_A]

def cbRow7 : List Entry :=
  [.op .bit_6_B, .op .bit_6_C, .op .bit_6_D, .op .bit_6_E, .op .bit_6_H, .op .bit_6_L, .op .bit_6_mHL, .op .bit_6_A,
  .op .bit_7_B, .op .bit_7_C, .op .bit_7_D, .op .bit_7_E, .op .bit_7_H, .op .bit_7_L, .op .bit_7_mHL, .op .bit_7_A]

def cbRow8 : List Entry :=
  [.op .res_0_B, .op .res_0_C, .op .res_0_D, .op .res_0_E, .op .res_0_H, .op .res_0_L, .op .res_0_mHL, .op .res_0_A,
  .op .res_1_B, .op .res_1_C, .op .res_1_D, .op .res_1_E, .op .res_1_H, .op .res_1_L, .op .res_1_mHL, .op .res_1_A]

def cbRow9 : List Entry :=
  [.op .res_2_B, .op .res_2_C, .op .res_2_D, .op .res_2_E, .op .res_2_H, .op .res_2_L, .op .res_2_mHL, .op .res_2_A,
  .op .res_3_B, .op .res_3_C, .op .res_3_D, .op .res_3_E, .op .res_3_H, .op .res_3_L, .op .res_3_mHL, .op .res_3_A]

def cbRowA : List Entry :=
  [.op .res_4_B, .op .res_4_C, .op .res_4_D, .op .res_4_E, .op .res_4_H, .op .res_4_L, .op .res_4_mHL, .op .res_4_A,
  .op .res_5_B, .op .res_5_C, .op .res_5_D, .op .res_5_E, .op .res_5_H, .op .res_5_L, .op .res_5_mHL, .op .res_5_A]

def cbRowB : List Entry :=
  [.op .res_6_B, .op .res_6_C, .op .res_6_D, .op .res_6_E, .op .res_6_H, .op .res_6_L, .op .res_6_mHL, .op .res_6_A,
  .op .res_7_B, .op .res_7_C, .op .res_7_D, .op .res_7_E, .op .res_7_H, .op .res_7_L, .op .res_7_mHL, .op .res_7_A]

def cbRowC : List Entry :=
  [.op .set_0_B, .op .set_0_C, .op .set_0_D, .op .set_0_E, .op .set_0_H, .op .set_0_L, .op .set_0_mHL, .op .set_0_A,
  .op .set_1_B, .op .set_1_C, .op .set_1_D, .op .set_1_E, .op .set_1_H, .op .set_1_L, .op .set_1_mHL, .op .set_1_A]

def cbRowD : List Entry :=
  [.op .set_2_B, .op .set_2_C, .op .set_2_D, .op .set_2_E, .op .set_2_H, .op .set_2_L, .op .set_2_mHL, .op .set_2_A,
  .op .set_3_B, .op .set_3_C, .op .set_3_D, .op .set_3_E, .op .set_3_H, .op .set_3_L, .op .set_3_mHL, .op .set_3_A]

def cbRowE : List Entry :=
  [.op .set_4_B, .op .set_4_C, .op .set_4_D, .op .set_4_E, .op .set_4_H, .op .set_4_L, .op .set_4_mHL, .op .set_4_A,
  .op .set_5_B, .op .set_5_C, .op .set_5_D, .op .set_5_E, .op .set_5_H, .op .set_5_L, .op .set_5_mHL, .op .set_5_A]

def cbRowF : List Entry :=
  [.op .set_6_B, .op .set_6_C, .op .set_6_D, .op .set_6_E, .op .set_6_H, .op .set_6_L, .op .set_6_mHL, .op .set_6_A,
  .op .set_7_B, .op .set_7_C, .op .set_7_D, .op .set_7_E, .op .set_7_H, .op .set_7_L, .op .set_7_mHL, .op .set_7_A]

/-- The CB layer map (R111). -/
def cbGrid : List (List Entry) :=
  [cbRow0, cbRow1, cbRow2, cbRow3, cbRow4, cbRow5, cbRow6, cbRow7, cbRow8, cbRow9, cbRowA, cbRowB, cbRowC, cbRowD, cbRowE,
  cbRowF]

def edRow0 : List Entry :=
  [.bad, .bad, .bad, .bad, .bad, .bad, .bad, .bad, .bad, .bad, .bad, .bad, .bad, .bad, .bad, .bad]

def edRow1 : List Entry :=
  [.bad, .bad, .bad, .bad, .bad, .bad, .bad, .bad, .bad, .bad, .bad, .bad, .bad, .bad, .bad, .bad]

def edRow2 : List Entry :=
  [.bad, .bad, .bad, .bad, .bad, .bad, .bad, .bad, .bad, .bad, .bad, .bad, .bad, .bad, .bad, .bad]

def edRow3 : List Entry :=
  [.bad, .bad, .bad, .bad, .bad, .bad, .bad, .bad, .bad, .bad, .bad, .bad, .bad, .bad, .bad, .bad]

def edRow4 : List Entry :=
  [.op .in_B_mC, .op .out_mC_B, .op .sbc_HL_BC, .opNN .ld_mnn_BC, .op .neg, .op .retn, .op .im_0, .op .ld_I_A,
  .op .in_C_mC, .op .out_mC_C, .op .adc_HL_BC, .opNN .ld_BC_mnn, .bad, .op .reti, .bad, .op .ld_R_A]

def edRow5 : List Entry :=
  [.op .in_D_mC, .op .out_mC_D, .op .sbc_HL_DE, .opNN .ld_mnn_DE, .bad, .bad, .op .im_1, .op .ld_A_I, .op .in_E_mC,
  .op .out_mC_E, .op .adc_HL_DE, .opNN .ld_DE_mnn, .bad, .bad, .op .im_2, .op .ld_A_R]

def edRow6 : List Entry :=
  [.op .in_H_mC, .op .out_mC_H, .op .sbc_HL_HL, .opNN .ld_mnn_HL_ed, .bad, .bad, .bad, .op .rrd, .op .in_L_mC,
  .op .out_mC_L, .op .adc_HL_HL, .opNN .ld_HL_mnn_ed, .bad, .bad, .bad, .op .rld]

def edRow7 : List Entry :=
  [.bad, .bad, .op .sbc_HL_SP, .opNN .ld_mnn_SP, .bad, .bad, .bad, .bad, .op .in_A_mC, .op .out_mC_A, .op .adc_HL_SP,
  .opNN .ld_SP_mnn, .bad, .bad, .bad, .bad]

def edRow8 : List Entry :=
  [.bad, .bad, .bad, .bad, .bad, .bad, .bad, .bad, .bad, .bad, .bad, .bad, .bad, .bad, .bad, .bad]

def edRow9 : List Entry :=
  [.bad, .bad, .bad, .bad, .bad, .bad, .bad, .bad, .bad, .bad, .bad, .bad, .bad, .bad, .bad, .bad]

def edRowA : List Entry :=
  [.op .ldi, .op .cpi, .op .ini, .op .outi, .bad, .bad, .bad, .bad, .op .ldd, .op .cpd, .op .ind, .op .outd, .bad, .bad,
  .bad, .bad]

def edRowB : List Entry :=
  [.op .ldir, .op .cpir, .op .inir, .op .otir, .bad, .bad, .bad, .bad, .op .lddr, .op .cpdr, .op .indr, .op .otdr, .bad,
  .bad, .bad, .bad]

def edRowC : List Entry :=
  [.bad, .bad, .bad, .bad, .bad, .bad, .bad, .bad, .bad, .bad, .bad, .bad, .bad, .bad, .bad, .bad]

def edRowD : List Entry :=
  [.bad, .bad, .bad, .bad, .bad, .bad, .bad, .bad, .bad, .bad, .bad, .bad, .bad, .bad, .bad, .bad]

def edRowE : List Entry :=
  [.bad, .bad, .bad, .bad, .bad, .bad, .bad, .bad, .bad, .bad, .bad, .bad, .bad, .bad, .bad, .bad]

def edRowF : List Entry :=
  [.bad, .bad, .bad, .bad, .bad, .bad, .bad, .bad, .bad, .bad, .bad, .bad, .bad, .bad, .bad, .bad]

/-- The ED layer map (R112). -/
def edGrid : List (List Entry) :=
  [edRow0, edRow1, edRow2, edRow3, edRow4, edRow5, edRow6, edRow7, edRow8, edRow9, edRowA, edRowB, edRowC, edRowD, edRowE,
  edRowF]

def ddRow0 : List Entry :=
  [.bad, .bad, .bad, .bad, .bad, .bad, .bad, .bad, .bad, .op .add_IX_BC, .bad, .bad, .bad, .bad, .bad, .bad]

def ddRow1 : List Entry :=
  [.bad, .bad, .bad, .bad, .bad, .bad, .bad, .bad, .bad, .op .add_IX_DE, .bad, .bad, .bad, .bad, .bad, .bad]

def ddRow2 : List Entry :=
  [.bad, .opNN .ld_IX_nn, .opNN .ld_mnn_IX, .op .inc_IX, .op .inc_IXH, .op .dec_IXH, .opN .ld_IXH_n, .bad, .bad,
  .op .add_IX_IX, .opNN .ld_IX_mnn, .op .dec_IX, .op .inc_IXL, .op .dec_IXL, .opN .ld_IXL_n, .bad]

def ddRow3 : List Entry :=
  [.bad, .bad, .bad, .bad, .opS .inc_mIXd, .opS .dec_mIXd, .opSN .ld_mIXd_n, .bad, .bad, .op .add_IX_SP, .bad, .bad, .bad,
  .bad, .bad, .bad]

def ddRow4 : List Entry :=
  [.bad, .bad, .bad, .bad, .op .ld_B_IXH, .op .ld_B_IXL, .opS .ld_B_mIXd, .bad, .bad, .bad, .bad, .bad, .op .ld_C_IXH,
  .op .ld_C_IXL, .opS .ld_C_mIXd, .bad]

def ddRow5 : List Entry :=
  [.bad, .bad, .bad, .bad, .op .ld_D_IXH, .op .ld_D_IXL, .opS .ld_D_mIXd, .bad, .bad, .bad, .bad, .bad, .op .ld_E_IXH,
  .op .ld_E_IXL, .opS .ld_E_mIXd, .bad]

def ddRow6 : List Entry :=
  [.op .ld_IXH_B, .op .ld_IXH_C, .op .ld_IXH_D, .op .ld_IXH_E, .op .ld_IXH_IXH, .op .ld_IXH_IXL, .opS .ld_H_mIXd,
  .op .ld_IXH_A, .op .ld_IXL_B, .op .ld_IXL_C, .op .ld_IXL_D, .op .ld_IXL_E, .op .ld_IXL_IXH, .op .ld_IXL_IXL,
  .opS .ld_L_mIXd, .op .ld_IXL_A]

def ddRow7 : List Entry :=
  [.opS .ld_mIXd_B, .opS .ld_mIXd_C, .opS .ld_mIXd_D, .opS .ld_mIXd_E, .opS .ld_mIXd_H, .opS .ld_mIXd_L, .bad,
  .opS .ld_mIXd_A, .bad, .bad, .bad, .bad, .op .ld_A_IXH, .op .ld_A_IXL, .opS .ld_A_mIXd, .bad]

def ddRow8 : List Entry :=
  [.bad, .bad, .bad, .bad, .op .add_A_IXH, .op .add_A_IXL, .opS .add_A_mIXd, .bad, .bad, .bad, .bad, .bad, .op .adc_A_IXH,
  .op .adc_A_IXL, .opS .adc_A_mIXd, .bad]

def ddRow9 : List Entry :=
  [.bad, .bad, .bad, .bad, .op .sub_IXH, .op .sub_IXL, .opS .sub_mIXd, .bad, .bad, .bad, .bad, .bad, .op .sbc_A_IXH,
  .op .sbc_A_IXL, .opS .sbc_A_mIXd, .bad]

def ddRowA : List Entry :=
  [.bad, .bad, .bad, .bad, .op .and_IXH, .op .and_IXL, .opS .and_mIXd, .bad, .bad, .bad, .bad, .bad, .op .xor_IXH,
  .op .xor_IXL, .opS .xor_mIXd, .bad]

def ddRowB : List Entry :=
  [.bad, .bad, .bad, .bad, .op .or_IXH, .op .or_IXL, .opS .or_mIXd, .bad, .bad, .bad, .bad, .bad, .op .cp_IXH, .op .cp_IXL,
  .opS .cp_mIXd, .bad]

def ddRowC : List Entry :=
  [.bad, .bad, .bad, .bad, .bad, .bad, .bad, .bad, .bad, .bad, .bad, .lead, .bad, .bad, .bad, .bad]

def ddRowD : List Entry :=
  [.bad, .bad, .bad, .bad, .bad, .bad, .bad, .bad, .bad, .bad, .bad, .bad, .bad, .bad, .bad, .bad]

def ddRowE : List Entry :=
  [.bad, .op .pop_IX, .bad, .op .ex_mSP_IX, .bad, .op .push_IX, .bad, .bad, .bad, .op .jp_mIX, .bad, .bad, .bad, .bad,
  .bad, .bad]

def ddRowF : List Entry :=
  [.bad, .bad, .bad, .bad, .bad, .bad, .bad, .bad, .bad, .op .ld_SP_IX, .bad, .bad, .bad, .bad, .bad, .bad]

/-- The DD layer map (R113). -/
def ddGrid : List (List Entry) :=
  [ddRow0, ddRow1, ddRow2, ddRow3, ddRow4, ddRow5, ddRow6, ddRow7, ddRow8, ddRow9, ddRowA, ddRowB, ddRowC, ddRowD, ddRowE,
  ddRowF]

def ddcbRow0 : List Entry :=
  [.bad, .bad, .bad, .bad, .bad, .bad, .opS .rlc_mIXd, .bad, .bad, .bad, .bad, .bad, .bad, .bad, .opS .rrc_mIXd, .bad]

def ddcbRow1 : List Entry :=
  [.bad, .bad, .bad, .bad, .bad, .bad, .opS .rl_mIXd, .bad, .bad, .bad, .bad, .bad, .bad, .bad, .opS .rr_mIXd, .bad]

def ddcbRow2 : List Entry :=
  [.bad, .bad, .bad, .bad, .bad, .bad, .opS .sla_mIXd, .bad, .bad, .bad, .bad, .bad, .bad, .bad, .opS .sra_mIXd, .bad]

def ddcbRow3 : List Entry :=
  [.bad, .bad, .bad, .bad, .bad, .bad, .opS .sll_mIXd, .bad, .bad, .bad, .bad, .bad, .bad, .bad, .opS .srl_mIXd, .bad]

def ddcbRow4 : List Entry :=
  [.bad, .bad, .bad, .bad, .bad, .bad, .opS .bit_0_mIXd, .bad, .bad, .bad, .bad, .bad, .bad, .bad, .opS .bit_1_mIXd, .bad]

def ddcbRow5 : List Entry :=
  [.bad, .bad, .bad, .bad, .bad, .bad, .opS .bit_2_mIXd, .bad, .bad, .bad, .bad, .bad, .bad, .bad, .opS .bit_3_mIXd, .bad]

def ddcbRow6 : List Entry :=
  [.bad, .bad, .bad, .bad, .bad, .bad, .opS .bit_4_mIXd, .bad, .bad, .bad, .bad, .bad, .bad, .bad, .opS .bit_5_mIXd, .bad]

def ddcbRow7 : List Entry :=
  [.bad, .bad, .bad, .bad, .bad, .bad, .opS .bit_6_mIXd, .bad, .bad, .bad, .bad, .bad, .bad, .bad, .opS .bit_7_mIXd, .bad]

def ddcbRow8 : List Entry :=
  [.bad, .bad, .bad, .bad, .bad, .bad, .opS .res_0_mIXd, .bad, .bad, .bad, .bad, .bad, .bad, .bad, .opS .res_1_mIXd, .bad]

def ddcbRow9 : List Entry :=
  [.bad, .bad, .bad, .bad, .bad, .bad, .opS .res_2_mIXd, .bad, .bad, .bad, .bad, .bad, .bad, .bad, .opS .res_3_mIXd, .bad]

def ddcbRowA : List Entry :=
  [.bad, .bad, .bad, .bad, .bad, .bad, .opS .res_4_mIXd, .bad, .bad, .bad, .bad, .bad, .bad, .bad, .opS .res_5_mIXd, .bad]

def ddcbRowB : List Entry :=
  [.bad, .bad, .bad, .bad, .bad, .bad, .opS .res_6_mIXd, .bad, .bad, .bad, .bad, .bad, .bad, .bad, .opS .res_7_mIXd, .bad]

def ddcbRowC : List Entry :=
  [.bad, .bad, .bad, .bad, .bad, .bad, .opS .set_0_mIXd, .bad, .bad, .bad, .bad, .bad, .bad, .bad, .opS .set_1_mIXd, .bad]

def ddcbRowD : List Entry :=
  [.bad, .bad, .bad, .bad, .bad, .bad, .opS .set_2_mIXd, .bad, .bad, .bad, .bad, .bad, .bad, .bad, .opS .set_3_mIXd, .bad]

def ddcbRowE : List Entry :=
  [.bad, .bad, .bad, .bad, .bad, .bad, .opS .set_4_mIXd, .bad, .bad, .bad, .bad, .bad, .bad, .bad, .opS .set_5_mIXd, .bad]

def ddcbRowF : List Entry :=
  [.bad, .bad, .bad, .bad, .bad, .bad, .opS .set_6_mIXd, .bad, .bad, .bad, .bad, .bad, .bad, .bad, .opS .set_7_mIXd, .bad]

/-- The DD CB layer map (R114). -/
def ddcbGrid : List (List Entry) :=
  [ddcbRow0, ddcbRow1, ddcbRow2, ddcbRow3, ddcbRow4, ddcbRow5, ddcbRow6, ddcbRow7, ddcbRow8, ddcbRow9, ddcbRowA, ddcbRowB,
  ddcbRowC, ddcbRowD, ddcbRowE, ddcbRowF]

def fdRow0 : List Entry :=
  [.bad, .bad, .bad, .bad, .bad, .bad, .bad, .bad, .bad, .op .add_IY_BC, .bad, .bad, .bad, .bad, .bad, .bad]

def fdRow1 : List Entry :=
  [.bad, .bad, .bad, .bad, .bad, .bad, .bad, .bad, .bad, .op .add_IY_DE, .bad, .bad, .bad, .bad, .bad, .bad]

def fdRow2 : List Entry :=
  [.bad, .opNN .ld_IY_nn, .opNN .ld_mnn_IY, .op .inc_IY, .op .inc_IYH, .op .dec_IYH, .opN .ld_IYH_n, .bad, .bad,
  .op .add_IY_IY, .opNN .ld_IY_mnn, .op .dec_IY, .op .inc_IYL, .op .dec_IYL, .opN .ld_IYL_n, .bad]

def fdRow3 : List Entry :=
  [.bad, .bad, .bad, .bad, .opS .inc_mIYd, .opS .dec_mIYd, .opSN .ld_mIYd_n, .bad, .bad, .op .add_IY_SP, .bad, .bad, .bad,
  .bad, .bad, .bad]

def fdRow4 : List Entry :=
  [.bad, .bad, .bad, .bad, .op .ld_B_IYH, .op .ld_B_IYL, .opS .ld_B_mIYd, .bad, .bad, .bad, .bad, .bad, .op .ld_C_IYH,
  .op .ld_C_IYL, .opS .ld_C_mIYd, .bad]

def fdRow5 : List Entry :=
  [.bad, .bad, .bad, .bad, .op .ld_D_IYH, .op .ld_D_IYL, .opS .ld_D_mIYd, .bad, .bad, .bad, .bad, .bad, .op .ld_E_IYH,
  .op .ld_E_IYL, .opS .ld_E_mIYd, .bad]

def fdRow6 : List Entry :=
  [.op .ld_IYH_B, .op .ld_IYH_C, .op .ld_IYH_D, .op .ld_IYH_E, .op .ld_IYH_IYH, .op .ld_IYH_IYL, .opS .ld_H_mIYd,
  .op .ld_IYH_A, .op .ld_IYL_B, .op .ld_IYL_C, .op .ld_IYL_D, .op .ld_IYL_E, .op .ld_IYL_IYH, .op .ld_IYL_IYL,
  .opS .ld_L_mIYd, .op .ld_IYL_A]

def fdRow7 : List Entry :=
  [.opS .ld_mIYd_B, .opS .ld_mIYd_C, .opS .ld_mIYd_D, .opS .ld_mIYd_E, .opS .ld_mIYd_H, .opS .ld_mIYd_L, .bad,
  .opS .ld_mIYd_A, .bad, .bad, .bad, .bad, .op .ld_A_IYH, .op .ld_A_IYL, .opS .ld_A_mIYd, .bad]

def fdRow8 : List Entry :=
  [.bad, .bad, .bad, .bad, .op .add_A_IYH, .op .add_A_IYL, .opS .add_A_mIYd, .bad, .bad, .bad, .bad, .bad, .op .adc_A_IYH,
  .op .adc_A_IYL, .opS .adc_A_mIYd, .bad]

def fdRow9 : List Entry :=
  [.bad, .bad, .bad, .bad, .op .sub_IYH, .op .sub_IYL, .opS .sub_mIYd, .bad, .bad, .bad, .bad, .bad, .op .sbc_A_IYH,
  .op .sbc_A_IYL, .opS .sbc_A_mIYd, .bad]

def fdRowA : List Entry :=
  [.bad, .bad, .bad, .bad, .op .and_IYH, .op .and_IYL, .opS .and_mIYd, .bad, .bad, .bad, .bad, .bad, .op .xor_IYH,
  .op .xor_IYL, .opS .xor_mIYd, .bad]

def fdRowB : List Entry :=
  [.bad, .bad, .bad, .bad, .op .or_IYH, .op .or_IYL, .opS .or_mIYd, .bad, .bad, .bad, .bad, .bad, .op .cp_IYH, .op .cp_IYL,
  .opS .cp_mIYd, .bad]

def fdRowC : List Entry :=
  [.bad, .bad, .bad, .bad, .bad, .bad, .bad, .bad, .bad, .bad, .bad, .lead, .bad, .bad, .bad, .bad]

def fdRowD : List Entry :=
  [.bad, .bad, .bad, .bad, .bad, .bad, .bad, .bad, .bad, .bad, .bad, .bad, .bad, .bad, .bad, .bad]

def fdRowE : List Entry :=
  [.bad, .op .pop_IY, .bad, .op .ex_mSP_IY, .bad, .op .push_IY, .bad, .bad, .bad, .op .jp_mIY, .bad, .bad, .bad, .bad,
  .bad, .bad]

def fdRowF : List Entry :=
  [.bad, .bad, .bad, .bad, .bad, .bad, .bad, .bad, .bad, .op .ld_SP_IY, .bad, .bad, .bad, .bad, .bad, .bad]

/-- The FD layer map: the DD map with IY in place of IX (R113). -/
def fdGrid : List (List Entry) :=
  [fdRow0, fdRow1, fdRow2, fdRow3, fdRow4, fdRow5, fdRow6, fdRow7, fdRow8, fdRow9, fdRowA, fdRowB, fdRowC, fdRowD, fdRowE,
  fdRowF]

def fdcbRow0 : List Entry :=
  [.bad, .bad, .bad, .bad, .bad, .bad, .opS .rlc_mIYd, .bad, .bad, .bad, .bad, .bad, .bad, .bad, .opS .rrc_mIYd, .bad]

def fdcbRow1 : List Entry :=
  [.bad, .bad, .bad, .bad, .bad, .bad, .opS .rl_mIYd, .bad, .bad, .bad, .bad, .bad, .bad, .bad, .opS .rr_mIYd, .bad]

def fdcbRow2 : List Entry :=
  [.bad, .bad, .bad, .bad, .bad, .bad, .opS .sla_mIYd, .bad, .bad, .bad, .bad, .bad, .bad, .bad, .opS .sra_mIYd, .bad]

def fdcbRow3 : List Entry :=
  [.bad, .bad, .bad, .bad, .bad, .bad, .opS .sll_mIYd, .bad, .bad, .bad, .bad, .bad, .bad, .bad, .opS .srl_mIYd, .bad]

def fdcbRow4 : List Entry :=
  [.bad, .bad, .bad, .bad, .bad, .bad, .opS .bit_0_mIYd, .bad, .bad, .bad, .bad, .bad, .bad, .bad, .opS .bit_1_mIYd, .bad]

def fdcbRow5 : List Entry :=
  [.bad, .bad, .bad, .bad, .bad, .bad, .opS .bit_2_mIYd, .bad, .bad, .bad, .bad, .bad, .bad, .bad, .opS .bit_3_mIYd, .bad]

def fdcbRow6 : List Entry :=
  [.bad, .bad, .bad, .bad, .bad, .bad, .opS .bit_4_mIYd, .bad, .bad, .bad, .bad, .bad, .bad, .bad, .opS .bit_5_mIYd, .bad]

def fdcbRow7 : List Entry :=
  [.bad, .bad, .bad, .bad, .bad, .bad, .opS .bit_6_mIYd, .bad, .bad, .bad, .bad, .bad, .bad, .bad, .opS .bit_7_mIYd, .bad]

def fdcbRow8 : List Entry :=
  [.bad, .bad, .bad, .bad, .bad, .bad, .opS .res_0_mIYd, .bad, .bad, .bad, .bad, .bad, .bad, .bad, .opS .res_1_mIYd, .bad]

def fdcbRow9 : List Entry :=
  [.bad, .bad, .bad, .bad, .bad, .bad, .opS .res_2_mIYd, .bad, .bad, .bad, .bad, .bad, .bad, .bad, .opS .res_3_mIYd, .bad]

def fdcbRowA : List Entry :=
  [.bad, .bad, .bad, .bad, .bad, .bad, .opS .res_4_mIYd, .bad, .bad, .bad, .bad, .bad, .bad, .bad, .opS .res_5_mIYd, .bad]

def fdcbRowB : List Entry :=
  [.bad, .bad, .bad, .bad, .bad, .bad, .opS .res_6_mIYd, .bad, .bad, .bad, .bad, .bad, .bad, .bad, .opS .res_7_mIYd, .bad]

def fdcbRowC : List Entry :=
  [.bad, .bad, .bad, .bad, .bad, .bad, .opS .set_0_mIYd, .bad, .bad, .bad, .bad, .bad, .bad, .bad, .opS .set_1_mIYd, .bad]

def fdcbRowD : List Entry :=
  [.bad, .bad, .bad, .bad, .bad, .bad, .opS .set_2_mIYd, .bad, .bad, .bad, .bad, .bad, .bad, .bad, .opS .set_3_mIYd, .bad]

def fdcbRowE : List Entry :=
  [.bad, .bad, .bad, .bad, .bad, .bad, .opS .set_4_mIYd, .bad, .bad, .bad, .bad, .bad, .bad, .bad, .opS .set_5_mIYd, .bad]

def fdcbRowF : List Entry :=
  [.bad, .bad, .bad, .bad, .bad, .bad, .opS .set_6_mIYd, .bad, .bad, .bad, .bad, .bad, .bad, .bad, .opS .set_7_mIYd, .bad]

/-- The FD CB layer map: the DD CB map with IY in place of IX (R114). -/
def fdcbGrid : List (List Entry) :=
  [fdcbRow0, fdcbRow1, fdcbRow2, fdcbRow3, fdcbRow4, fdcbRow5, fdcbRow6, fdcbRow7, fdcbRow8, fdcbRow9, fdcbRowA, fdcbRowB,
  fdcbRowC, fdcbRowD, fdcbRowE, fdcbRowF]

/-- What a decoder answers: the instruction and the bytes after it, or why there is none. -/
abbrev Decoded := Except Reject (Instr × List Byte)

open Machine in
/-- The operand bytes of a cell, fetched after the opcode byte (R91, R94, R104); `why` is the answer of a cell that is no
instruction. -/
def decodeOperands (e : Entry) (why : Reject) (bs : List Byte) : Decoded :=
  match e with
  | .op i => .ok (i, bs)
  | .opN f =>
    match bs with
    | n :: rest => .ok (f n, rest)
    | [] => .error .truncated
  | .opS f =>
    match bs with
    | d :: rest => .ok (f (signedByte d), rest)
    | [] => .error .truncated
  | .opSN f =>
    match bs with
    | d :: n :: rest => .ok (f (signedByte d) n, rest)
    | _ => .error .truncated
  | .opNN f =>
    match bs with
    | lo :: hi :: rest => .ok (f (joinBytes hi lo), rest)
    | _ => .error .truncated
  | .lead => .error why
  | .bad => .error why

open Machine in
/-- The indexed CB layer: `d`, then the final byte (R101). -/
def decodeIndexedCb (lead : Byte) (grid : List (List Entry)) (bs : List Byte) : Decoded :=
  match bs with
  | d :: op :: rest => decodeOperands (gridAt grid op) (.indexedCbUndefined lead d op) (d :: rest)
  | _ => .error .truncated

/-- The DD and FD layers (R100, R102, R103). -/
def decodeIndexed (lead : Byte) (grid cbGrid : List (List Entry)) (bs : List Byte) : Decoded :=
  match bs with
  | [] => .error .truncated
  | op :: rest =>
    if op = 0xCB then decodeIndexedCb lead cbGrid rest
    else decodeOperands (gridAt grid op) (.noIndexForm lead op) rest

/-- The CB and ED layers: one opcode byte, then its operands (R96, R98, R99). -/
def decodeSecond (grid : List (List Entry)) (bs : List Byte) : Decoded :=
  match bs with
  | [] => .error .truncated
  | op :: rest => decodeOperands (gridAt grid op) (.edUndefined op) rest

/-- The decoder (R94): the first byte selects the layer. -/
def decode (bs : List Byte) : Decoded :=
  match bs with
  | [] => .error .truncated
  | op :: rest =>
    if op = 0xCB then decodeSecond cbGrid rest
    else if op = 0xED then decodeSecond edGrid rest
    else if op = 0xDD then decodeIndexed 0xDD ddGrid ddcbGrid rest
    else if op = 0xFD then decodeIndexed 0xFD fdGrid fdcbGrid rest
    else decodeOperands (gridAt baseGrid op) .truncated rest

/-- The four bytes of a number whose bit 0 is the least significant bit of the first byte; bits from `nbits` up are 0. -/
def tableBytes (nbits w : Nat) : List Byte :=
  let v := w % 2 ^ nbits
  [BitVec.ofNat 8 v, BitVec.ofNat 8 (v / 2 ^ 8), BitVec.ofNat 8 (v / 2 ^ 16), BitVec.ofNat 8 (v / 2 ^ 24)]

/-- The instruction the decoder reads from a word as spec/opcode_table.json numbers its bits. -/
def decodeTableWord (nbits w : Nat) : Option Instr :=
  match decode (tableBytes nbits w) with
  | .ok (i, _) => some i
  | .error _ => none

open Machine in
/-- The encoder: the bytes of an instruction in fetch order (spec/opcode_table.json, columns layout and match). -/
def encode (i : Instr) : List Byte :=
  match i with
  | .nop => [0x00]
  | .ld_BC_nn nn => [0x01, loByte nn, hiByte nn]
  | .ld_mBC_A => [0x02]
  | .inc_BC => [0x03]
  | .inc_B => [0x04]
  | .dec_B => [0x05]
  | .ld_B_n n => [0x06, n]
  | .rlca => [0x07]
  | .ex_AF_AF => [0x08]
  | .add_HL_BC => [0x09]
  | .ld_A_mBC => [0x0A]
  | .dec_BC => [0x0B]
  | .inc_C => [0x0C]
  | .dec_C => [0x0D]
  | .ld_C_n n => [0x0E, n]
  | .rrca => [0x0F]
  | .djnz_e e => [0x10, displacementByte e]
  | .ld_DE_nn nn => [0x11, loByte nn, hiByte nn]
  | .ld_mDE_A => [0x12]
  | .inc_DE => [0x13]
  | .inc_D => [0x14]
  | .dec_D => [0x15]
  | .ld_D_n n => [0x16, n]
  | .rla => [0x17]
  | .jr_e e => [0x18, displacementByte e]
  | .add_HL_DE => [0x19]
  | .ld_A_mDE => [0x1A]
  | .dec_DE => [0x1B]
  | .inc_E => [0x1C]
  | .dec_E => [0x1D]
  | .ld_E_n n => [0x1E, n]
  | .rra => [0x1F]
  | .jr_NZ_e e => [0x20, displacementByte e]
  | .ld_HL_nn nn => [0x21, loByte nn, hiByte nn]
  | .ld_mnn_HL nn => [0x22, loByte nn, hiByte nn]
  | .inc_HL => [0x23]
  | .inc_H => [0x24]
  | .dec_H => [0x25]
  | .ld_H_n n => [0x26, n]
  | .daa => [0x27]
  | .jr_Z_e e => [0x28, displacementByte e]
  | .add_HL_HL => [0x29]
  | .ld_HL_mnn nn => [0x2A, loByte nn, hiByte nn]
  | .dec_HL => [0x2B]
  | .inc_L => [0x2C]
  | .dec_L => [0x2D]
  | .ld_L_n n => [0x2E, n]
  | .cpl => [0x2F]
  | .jr_NC_e e => [0x30, displacementByte e]
  | .ld_SP_nn nn => [0x31, loByte nn, hiByte nn]
  | .ld_mnn_A nn => [0x32, loByte nn, hiByte nn]
  | .inc_SP => [0x33]
  | .inc_mHL => [0x34]
  | .dec_mHL => [0x35]
  | .ld_mHL_n n => [0x36, n]
  | .scf => [0x37]
  | .jr_C_e e => [0x38, displacementByte e]
  | .add_HL_SP => [0x39]
  | .ld_A_mnn nn => [0x3A, loByte nn, hiByte nn]
  | .dec_SP => [0x3B]
  | .inc_A => [0x3C]
  | .dec_A => [0x3D]
  | .ld_A_n n => [0x3E, n]
  | .ccf => [0x3F]
  | .ld_B_B => [0x40]
  | .ld_B_C => [0x41]
  | .ld_B_D => [0x42]
  | .ld_B_E => [0x43]
  | .ld_B_H => [0x44]
  | .ld_B_L => [0x45]
  | .ld_B_mHL => [0x46]
  | .ld_B_A => [0x47]
  | .ld_C_B => [0x48]
  | .ld_C_C => [0x49]
  | .ld_C_D => [0x4A]
  | .ld_C_E => [0x4B]
  | .ld_C_H => [0x4C]
  | .ld_C_L => [0x4D]
  | .ld_C_mHL => [0x4E]
  | .ld_C_A => [0x4F]
  | .ld_D_B => [0x50]
  | .ld_D_C => [0x51]
  | .ld_D_D => [0x52]
  | .ld_D_E => [0x53]
  | .ld_D_H => [0x54]
  | .ld_D_L => [0x55]
  | .ld_D_mHL => [0x56]
  | .ld_D_A => [0x57]
  | .ld_E_B => [0x58]
  | .ld_E_C => [0x59]
  | .ld_E_D => [0x5A]
  | .ld_E_E => [0x5B]
  | .ld_E_H => [0x5C]
  | .ld_E_L => [0x5D]
  | .ld_E_mHL => [0x5E]
  | .ld_E_A => [0x5F]
  | .ld_H_B => [0x60]
  | .ld_H_C => [0x61]
  | .ld_H_D => [0x62]
  | .ld_H_E => [0x63]
  | .ld_H_H => [0x64]
  | .ld_H_L => [0x65]
  | .ld_H_mHL => [0x66]
  | .ld_H_A => [0x67]
  | .ld_L_B => [0x68]
  | .ld_L_C => [0x69]
  | .ld_L_D => [0x6A]
  | .ld_L_E => [0x6B]
  | .ld_L_H => [0x6C]
  | .ld_L_L => [0x6D]
  | .ld_L_mHL => [0x6E]
  | .ld_L_A => [0x6F]
  | .ld_mHL_B => [0x70]
  | .ld_mHL_C => [0x71]
  | .ld_mHL_D => [0x72]
  | .ld_mHL_E => [0x73]
  | .ld_mHL_H => [0x74]
  | .ld_mHL_L => [0x75]
  | .halt => [0x76]
  | .ld_mHL_A => [0x77]
  | .ld_A_B => [0x78]
  | .ld_A_C => [0x79]
  | .ld_A_D => [0x7A]
  | .ld_A_E => [0x7B]
  | .ld_A_H => [0x7C]
  | .ld_A_L => [0x7D]
  | .ld_A_mHL => [0x7E]
  | .ld_A_A => [0x7F]
  | .add_A_B => [0x80]
  | .add_A_C => [0x81]
  | .add_A_D => [0x82]
  | .add_A_E => [0x83]
  | .add_A_H => [0x84]
  | .add_A_L => [0x85]
  | .add_A_mHL => [0x86]
  | .add_A_A => [0x87]
  | .adc_A_B => [0x88]
  | .adc_A_C => [0x89]
  | .adc_A_D => [0x8A]
  | .adc_A_E => [0x8B]
  | .adc_A_H => [0x8C]
  | .adc_A_L => [0x8D]
  | .adc_A_mHL => [0x8E]
  | .adc_A_A => [0x8F]
  | .sub_B => [0x90]
  | .sub_C => [0x91]
  | .sub_D => [0x92]
  | .sub_E => [0x93]
  | .sub_H => [0x94]
  | .sub_L => [0x95]
  | .sub_mHL => [0x96]
  | .sub_A => [0x97]
  | .sbc_A_B => [0x98]
  | .sbc_A_C => [0x99]
  | .sbc_A_D => [0x9A]
  | .sbc_A_E => [0x9B]
  | .sbc_A_H => [0x9C]
  | .sbc_A_L => [0x9D]
  | .sbc_A_mHL => [0x9E]
  | .sbc_A_A => [0x9F]
  | .and_B => [0xA0]
  | .and_C => [0xA1]
  | .and_D => [0xA2]
  | .and_E => [0xA3]
  | .and_H => [0xA4]
  | .and_L => [0xA5]
  | .and_mHL => [0xA6]
  | .and_A => [0xA7]
  | .xor_B => [0xA8]
  | .xor_C => [0xA9]
  | .xor_D => [0xAA]
  | .xor_E => [0xAB]
  | .xor_H => [0xAC]
  | .xor_L => [0xAD]
  | .xor_mHL => [0xAE]
  | .xor_A => [0xAF]
  | .or_B => [0xB0]
  | .or_C => [0xB1]
  | .or_D => [0xB2]
  | .or_E => [0xB3]
  | .or_H => [0xB4]
  | .or_L => [0xB5]
  | .or_mHL => [0xB6]
  | .or_A => [0xB7]
  | .cp_B => [0xB8]
  | .cp_C => [0xB9]
  | .cp_D => [0xBA]
  | .cp_E => [0xBB]
  | .cp_H => [0xBC]
  | .cp_L => [0xBD]
  | .cp_mHL => [0xBE]
  | .cp_A => [0xBF]
  | .ret_NZ => [0xC0]
  | .pop_BC => [0xC1]
  | .jp_NZ_nn nn => [0xC2, loByte nn, hiByte nn]
  | .jp_nn nn => [0xC3, loByte nn, hiByte nn]
  | .call_NZ_nn nn => [0xC4, loByte nn, hiByte nn]
  | .push_BC => [0xC5]
  | .add_A_n n => [0xC6, n]
  | .rst_00 => [0xC7]
  | .ret_Z => [0xC8]
  | .ret => [0xC9]
  | .jp_Z_nn nn => [0xCA, loByte nn, hiByte nn]
  | .call_Z_nn nn => [0xCC, loByte nn, hiByte nn]
  | .call_nn nn => [0xCD, loByte nn, hiByte nn]
  | .adc_A_n n => [0xCE, n]
  | .rst_08 => [0xCF]
  | .ret_NC => [0xD0]
  | .pop_DE => [0xD1]
  | .jp_NC_nn nn => [0xD2, loByte nn, hiByte nn]
  | .out_mn_A n => [0xD3, n]
  | .call_NC_nn nn => [0xD4, loByte nn, hiByte nn]
  | .push_DE => [0xD5]
  | .sub_n n => [0xD6, n]
  | .rst_10 => [0xD7]
  | .ret_C => [0xD8]
  | .exx => [0xD9]
  | .jp_C_nn nn => [0xDA, loByte nn, hiByte nn]
  | .in_A_mn n => [0xDB, n]
  | .call_C_nn nn => [0xDC, loByte nn, hiByte nn]
  | .sbc_A_n n => [0xDE, n]
  | .rst_18 => [0xDF]
  | .ret_PO => [0xE0]
  | .pop_HL => [0xE1]
  | .jp_PO_nn nn => [0xE2, loByte nn, hiByte nn]
  | .ex_mSP_HL => [0xE3]
  | .call_PO_nn nn => [0xE4, loByte nn, hiByte nn]
  | .push_HL => [0xE5]
  | .and_n n => [0xE6, n]
  | .rst_20 => [0xE7]
  | .ret_PE => [0xE8]
  | .jp_mHL => [0xE9]
  | .jp_PE_nn nn => [0xEA, loByte nn, hiByte nn]
  | .ex_DE_HL => [0xEB]
  | .call_PE_nn nn => [0xEC, loByte nn, hiByte nn]
  | .xor_n n => [0xEE, n]
  | .rst_28 => [0xEF]
  | .ret_P => [0xF0]
  | .pop_AF => [0xF1]
  | .jp_P_nn nn => [0xF2, loByte nn, hiByte nn]
  | .di => [0xF3]
  | .call_P_nn nn => [0xF4, loByte nn, hiByte nn]
  | .push_AF => [0xF5]
  | .or_n n => [0xF6, n]
  | .rst_30 => [0xF7]
  | .ret_M => [0xF8]
  | .ld_SP_HL => [0xF9]
  | .jp_M_nn nn => [0xFA, loByte nn, hiByte nn]
  | .ei => [0xFB]
  | .call_M_nn nn => [0xFC, loByte nn, hiByte nn]
  | .cp_n n => [0xFE, n]
  | .rst_38 => [0xFF]
  | .rlc_B => [0xCB, 0x00]
  | .rlc_C => [0xCB, 0x01]
  | .rlc_D => [0xCB, 0x02]
  | .rlc_E => [0xCB, 0x03]
  | .rlc_H => [0xCB, 0x04]
  | .rlc_L => [0xCB, 0x05]
  | .rlc_mHL => [0xCB, 0x06]
  | .rlc_A => [0xCB, 0x07]
  | .rrc_B => [0xCB, 0x08]
  | .rrc_C => [0xCB, 0x09]
  | .rrc_D => [0xCB, 0x0A]
  | .rrc_E => [0xCB, 0x0B]
  | .rrc_H => [0xCB, 0x0C]
  | .rrc_L => [0xCB, 0x0D]
  | .rrc_mHL => [0xCB, 0x0E]
  | .rrc_A => [0xCB, 0x0F]
  | .rl_B => [0xCB, 0x10]
  | .rl_C => [0xCB, 0x11]
  | .rl_D => [0xCB, 0x12]
  | .rl_E => [0xCB, 0x13]
  | .rl_H => [0xCB, 0x14]
  | .rl_L => [0xCB, 0x15]
  | .rl_mHL => [0xCB, 0x16]
  | .rl_A => [0xCB, 0x17]
  | .rr_B => [0xCB, 0x18]
  | .rr_C => [0xCB, 0x19]
  | .rr_D => [0xCB, 0x1A]
  | .rr_E => [0xCB, 0x1B]
  | .rr_H => [0xCB, 0x1C]
  | .rr_L => [0xCB, 0x1D]
  | .rr_mHL => [0xCB, 0x1E]
  | .rr_A => [0xCB, 0x1F]
  | .sla_B => [0xCB, 0x20]
  | .sla_C => [0xCB, 0x21]
  | .sla_D => [0xCB, 0x22]
  | .sla_E => [0xCB, 0x23]
  | .sla_H => [0xCB, 0x24]
  | .sla_L => [0xCB, 0x25]
  | .sla_mHL => [0xCB, 0x26]
  | .sla_A => [0xCB, 0x27]
  | .sra_B => [0xCB, 0x28]
  | .sra_C => [0xCB, 0x29]
  | .sra_D => [0xCB, 0x2A]
  | .sra_E => [0xCB, 0x2B]
  | .sra_H => [0xCB, 0x2C]
  | .sra_L => [0xCB, 0x2D]
  | .sra_mHL => [0xCB, 0x2E]
  | .sra_A => [0xCB, 0x2F]
  | .sll_B => [0xCB, 0x30]
  | .sll_C => [0xCB, 0x31]
  | .sll_D => [0xCB, 0x32]
  | .sll_E => [0xCB, 0x33]
  | .sll_H => [0xCB, 0x34]
  | .sll_L => [0xCB, 0x35]
  | .sll_mHL => [0xCB, 0x36]
  | .sll_A => [0xCB, 0x37]
  | .srl_B => [0xCB, 0x38]
  | .srl_C => [0xCB, 0x39]
  | .srl_D => [0xCB, 0x3A]
  | .srl_E => [0xCB, 0x3B]
  | .srl_H => [0xCB, 0x3C]
  | .srl_L => [0xCB, 0x3D]
  | .srl_mHL => [0xCB, 0x3E]
  | .srl_A => [0xCB, 0x3F]
  | .bit_0_B => [0xCB, 0x40]
  | .bit_0_C => [0xCB, 0x41]
  | .bit_0_D => [0xCB, 0x42]
  | .bit_0_E => [0xCB, 0x43]
  | .bit_0_H => [0xCB, 0x44]
  | .bit_0_L => [0xCB, 0x45]
  | .bit_0_mHL => [0xCB, 0x46]
  | .bit_0_A => [0xCB, 0x47]
  | .bit_1_B => [0xCB, 0x48]
  | .bit_1_C => [0xCB, 0x49]
  | .bit_1_D => [0xCB, 0x4A]
  | .bit_1_E => [0xCB, 0x4B]
  | .bit_1_H => [0xCB, 0x4C]
  | .bit_1_L => [0xCB, 0x4D]
  | .bit_1_mHL => [0xCB, 0x4E]
  | .bit_1_A => [0xCB, 0x4F]
  | .bit_2_B => [0xCB, 0x50]
  | .bit_2_C => [0xCB, 0x51]
  | .bit_2_D => [0xCB, 0x52]
  | .bit_2_E => [0xCB, 0x53]
  | .bit_2_H => [0xCB, 0x54]
  | .bit_2_L => [0xCB, 0x55]
  | .bit_2_mHL => [0xCB, 0x56]
  | .bit_2_A => [0xCB, 0x57]
  | .bit_3_B => [0xCB, 0x58]
  | .bit_3_C => [0xCB, 0x59]
  | .bit_3_D => [0xCB, 0x5A]
  | .bit_3_E => [0xCB, 0x5B]
  | .bit_3_H => [0xCB, 0x5C]
  | .bit_3_L => [0xCB, 0x5D]
  | .bit_3_mHL => [0xCB, 0x5E]
  | .bit_3_A => [0xCB, 0x5F]
  | .bit_4_B => [0xCB, 0x60]
  | .bit_4_C => [0xCB, 0x61]
  | .bit_4_D => [0xCB, 0x62]
  | .bit_4_E => [0xCB, 0x63]
  | .bit_4_H => [0xCB, 0x64]
  | .bit_4_L => [0xCB, 0x65]
  | .bit_4_mHL => [0xCB, 0x66]
  | .bit_4_A => [0xCB, 0x67]
  | .bit_5_B => [0xCB, 0x68]
  | .bit_5_C => [0xCB, 0x69]
  | .bit_5_D => [0xCB, 0x6A]
  | .bit_5_E => [0xCB, 0x6B]
  | .bit_5_H => [0xCB, 0x6C]
  | .bit_5_L => [0xCB, 0x6D]
  | .bit_5_mHL => [0xCB, 0x6E]
  | .bit_5_A => [0xCB, 0x6F]
  | .bit_6_B => [0xCB, 0x70]
  | .bit_6_C => [0xCB, 0x71]
  | .bit_6_D => [0xCB, 0x72]
  | .bit_6_E => [0xCB, 0x73]
  | .bit_6_H => [0xCB, 0x74]
  | .bit_6_L => [0xCB, 0x75]
  | .bit_6_mHL => [0xCB, 0x76]
  | .bit_6_A => [0xCB, 0x77]
  | .bit_7_B => [0xCB, 0x78]
  | .bit_7_C => [0xCB, 0x79]
  | .bit_7_D => [0xCB, 0x7A]
  | .bit_7_E => [0xCB, 0x7B]
  | .bit_7_H => [0xCB, 0x7C]
  | .bit_7_L => [0xCB, 0x7D]
  | .bit_7_mHL => [0xCB, 0x7E]
  | .bit_7_A => [0xCB, 0x7F]
  | .res_0_B => [0xCB, 0x80]
  | .res_0_C => [0xCB, 0x81]
  | .res_0_D => [0xCB, 0x82]
  | .res_0_E => [0xCB, 0x83]
  | .res_0_H => [0xCB, 0x84]
  | .res_0_L => [0xCB, 0x85]
  | .res_0_mHL => [0xCB, 0x86]
  | .res_0_A => [0xCB, 0x87]
  | .res_1_B => [0xCB, 0x88]
  | .res_1_C => [0xCB, 0x89]
  | .res_1_D => [0xCB, 0x8A]
  | .res_1_E => [0xCB, 0x8B]
  | .res_1_H => [0xCB, 0x8C]
  | .res_1_L => [0xCB, 0x8D]
  | .res_1_mHL => [0xCB, 0x8E]
  | .res_1_A => [0xCB, 0x8F]
  | .res_2_B => [0xCB, 0x90]
  | .res_2_C => [0xCB, 0x91]
  | .res_2_D => [0xCB, 0x92]
  | .res_2_E => [0xCB, 0x93]
  | .res_2_H => [0xCB, 0x94]
  | .res_2_L => [0xCB, 0x95]
  | .res_2_mHL => [0xCB, 0x96]
  | .res_2_A => [0xCB, 0x97]
  | .res_3_B => [0xCB, 0x98]
  | .res_3_C => [0xCB, 0x99]
  | .res_3_D => [0xCB, 0x9A]
  | .res_3_E => [0xCB, 0x9B]
  | .res_3_H => [0xCB, 0x9C]
  | .res_3_L => [0xCB, 0x9D]
  | .res_3_mHL => [0xCB, 0x9E]
  | .res_3_A => [0xCB, 0x9F]
  | .res_4_B => [0xCB, 0xA0]
  | .res_4_C => [0xCB, 0xA1]
  | .res_4_D => [0xCB, 0xA2]
  | .res_4_E => [0xCB, 0xA3]
  | .res_4_H => [0xCB, 0xA4]
  | .res_4_L => [0xCB, 0xA5]
  | .res_4_mHL => [0xCB, 0xA6]
  | .res_4_A => [0xCB, 0xA7]
  | .res_5_B => [0xCB, 0xA8]
  | .res_5_C => [0xCB, 0xA9]
  | .res_5_D => [0xCB, 0xAA]
  | .res_5_E => [0xCB, 0xAB]
  | .res_5_H => [0xCB, 0xAC]
  | .res_5_L => [0xCB, 0xAD]
  | .res_5_mHL => [0xCB, 0xAE]
  | .res_5_A => [0xCB, 0xAF]
  | .res_6_B => [0xCB, 0xB0]
  | .res_6_C => [0xCB, 0xB1]
  | .res_6_D => [0xCB, 0xB2]
  | .res_6_E => [0xCB, 0xB3]
  | .res_6_H => [0xCB, 0xB4]
  | .res_6_L => [0xCB, 0xB5]
  | .res_6_mHL => [0xCB, 0xB6]
  | .res_6_A => [0xCB, 0xB7]
  | .res_7_B => [0xCB, 0xB8]
  | .res_7_C => [0xCB, 0xB9]
  | .res_7_D => [0xCB, 0xBA]
  | .res_7_E => [0xCB, 0xBB]
  | .res_7_H => [0xCB, 0xBC]
  | .res_7_L => [0xCB, 0xBD]
  | .res_7_mHL => [0xCB, 0xBE]
  | .res_7_A => [0xCB, 0xBF]
  | .set_0_B => [0xCB, 0xC0]
  | .set_0_C => [0xCB, 0xC1]
  | .set_0_D => [0xCB, 0xC2]
  | .set_0_E => [0xCB, 0xC3]
  | .set_0_H => [0xCB, 0xC4]
  | .set_0_L => [0xCB, 0xC5]
  | .set_0_mHL => [0xCB, 0xC6]
  | .set_0_A => [0xCB, 0xC7]
  | .set_1_B => [0xCB, 0xC8]
  | .set_1_C => [0xCB, 0xC9]
  | .set_1_D => [0xCB, 0xCA]
  | .set_1_E => [0xCB, 0xCB]
  | .set_1_H => [0xCB, 0xCC]
  | .set_1_L => [0xCB, 0xCD]
  | .set_1_mHL => [0xCB, 0xCE]
  | .set_1_A => [0xCB, 0xCF]
  | .set_2_B => [0xCB, 0xD0]
  | .set_2_C => [0xCB, 0xD1]
  | .set_2_D => [0xCB, 0xD2]
  | .set_2_E => [0xCB, 0xD3]
  | .set_2_H => [0xCB, 0xD4]
  | .set_2_L => [0xCB, 0xD5]
  | .set_2_mHL => [0xCB, 0xD6]
  | .set_2_A => [0xCB, 0xD7]
  | .set_3_B => [0xCB, 0xD8]
  | .set_3_C => [0xCB, 0xD9]
  | .set_3_D => [0xCB, 0xDA]
  | .set_3_E => [0xCB, 0xDB]
  | .set_3_H => [0xCB, 0xDC]
  | .set_3_L => [0xCB, 0xDD]
  | .set_3_mHL => [0xCB, 0xDE]
  | .set_3_A => [0xCB, 0xDF]
  | .set_4_B => [0xCB, 0xE0]
  | .set_4_C => [0xCB, 0xE1]
  | .set_4_D => [0xCB, 0xE2]
  | .set_4_E => [0xCB, 0xE3]
  | .set_4_H => [0xCB, 0xE4]
  | .set_4_L => [0xCB, 0xE5]
  | .set_4_mHL => [0xCB, 0xE6]
  | .set_4_A => [0xCB, 0xE7]
  | .set_5_B => [0xCB, 0xE8]
  | .set_5_C => [0xCB, 0xE9]
  | .set_5_D => [0xCB, 0xEA]
  | .set_5_E => [0xCB, 0xEB]
  | .set_5_H => [0xCB, 0xEC]
  | .set_5_L => [0xCB, 0xED]
  | .set_5_mHL => [0xCB, 0xEE]
  | .set_5_A => [0xCB, 0xEF]
  | .set_6_B => [0xCB, 0xF0]
  | .set_6_C => [0xCB, 0xF1]
  | .set_6_D => [0xCB, 0xF2]
  | .set_6_E => [0xCB, 0xF3]
  | .set_6_H => [0xCB, 0xF4]
  | .set_6_L => [0xCB, 0xF5]
  | .set_6_mHL => [0xCB, 0xF6]
  | .set_6_A => [0xCB, 0xF7]
  | .set_7_B => [0xCB, 0xF8]
  | .set_7_C => [0xCB, 0xF9]
  | .set_7_D => [0xCB, 0xFA]
  | .set_7_E => [0xCB, 0xFB]
  | .set_7_H => [0xCB, 0xFC]
  | .set_7_L => [0xCB, 0xFD]
  | .set_7_mHL => [0xCB, 0xFE]
  | .set_7_A => [0xCB, 0xFF]
  | .in_B_mC => [0xED, 0x40]
  | .out_mC_B => [0xED, 0x41]
  | .sbc_HL_BC => [0xED, 0x42]
  | .ld_mnn_BC nn => [0xED, 0x43, loByte nn, hiByte nn]
  | .neg => [0xED, 0x44]
  | .retn => [0xED, 0x45]
  | .im_0 => [0xED, 0x46]
  | .ld_I_A => [0xED, 0x47]
  | .in_C_mC => [0xED, 0x48]
  | .out_mC_C => [0xED, 0x49]
  | .adc_HL_BC => [0xED, 0x4A]
  | .ld_BC_mnn nn => [0xED, 0x4B, loByte nn, hiByte nn]
  | .reti => [0xED, 0x4D]
  | .ld_R_A => [0xED, 0x4F]
  | .in_D_mC => [0xED, 0x50]
  | .out_mC_D => [0xED, 0x51]
  | .sbc_HL_DE => [0xED, 0x52]
  | .ld_mnn_DE nn => [0xED, 0x53, loByte nn, hiByte nn]
  | .im_1 => [0xED, 0x56]
  | .ld_A_I => [0xED, 0x57]
  | .in_E_mC => [0xED, 0x58]
  | .out_mC_E => [0xED, 0x59]
  | .adc_HL_DE => [0xED, 0x5A]
  | .ld_DE_mnn nn => [0xED, 0x5B, loByte nn, hiByte nn]
  | .im_2 => [0xED, 0x5E]
  | .ld_A_R => [0xED, 0x5F]
  | .in_H_mC => [0xED, 0x60]
  | .out_mC_H => [0xED, 0x61]
  | .sbc_HL_HL => [0xED, 0x62]
  | .ld_mnn_HL_ed nn => [0xED, 0x63, loByte nn, hiByte nn]
  | .rrd => [0xED, 0x67]
  | .in_L_mC => [0xED, 0x68]
  | .out_mC_L => [0xED, 0x69]
  | .adc_HL_HL => [0xED, 0x6A]
  | .ld_HL_mnn_ed nn => [0xED, 0x6B, loByte nn, hiByte nn]
  | .rld => [0xED, 0x6F]
  | .sbc_HL_SP => [0xED, 0x72]
  | .ld_mnn_SP nn => [0xED, 0x73, loByte nn, hiByte nn]
  | .in_A_mC => [0xED, 0x78]
  | .out_mC_A => [0xED, 0x79]
  | .adc_HL_SP => [0xED, 0x7A]
  | .ld_SP_mnn nn => [0xED, 0x7B, loByte nn, hiByte nn]
  | .ldi => [0xED, 0xA0]
  | .cpi => [0xED, 0xA1]
  | .ini => [0xED, 0xA2]
  | .outi => [0xED, 0xA3]
  | .ldd => [0xED, 0xA8]
  | .cpd => [0xED, 0xA9]
  | .ind => [0xED, 0xAA]
  | .outd => [0xED, 0xAB]
  | .ldir => [0xED, 0xB0]
  | .cpir => [0xED, 0xB1]
  | .inir => [0xED, 0xB2]
  | .otir => [0xED, 0xB3]
  | .lddr => [0xED, 0xB8]
  | .cpdr => [0xED, 0xB9]
  | .indr => [0xED, 0xBA]
  | .otdr => [0xED, 0xBB]
  | .add_IX_BC => [0xDD, 0x09]
  | .add_IX_DE => [0xDD, 0x19]
  | .ld_IX_nn nn => [0xDD, 0x21, loByte nn, hiByte nn]
  | .ld_mnn_IX nn => [0xDD, 0x22, loByte nn, hiByte nn]
  | .inc_IX => [0xDD, 0x23]
  | .inc_IXH => [0xDD, 0x24]
  | .dec_IXH => [0xDD, 0x25]
  | .ld_IXH_n n => [0xDD, 0x26, n]
  | .add_IX_IX => [0xDD, 0x29]
  | .ld_IX_mnn nn => [0xDD, 0x2A, loByte nn, hiByte nn]
  | .dec_IX => [0xDD, 0x2B]
  | .inc_IXL => [0xDD, 0x2C]
  | .dec_IXL => [0xDD, 0x2D]
  | .ld_IXL_n n => [0xDD, 0x2E, n]
  | .inc_mIXd d => [0xDD, 0x34, displacementByte d]
  | .dec_mIXd d => [0xDD, 0x35, displacementByte d]
  | .ld_mIXd_n d n => [0xDD, 0x36, displacementByte d, n]
  | .add_IX_SP => [0xDD, 0x39]
  | .ld_B_IXH => [0xDD, 0x44]
  | .ld_B_IXL => [0xDD, 0x45]
  | .ld_B_mIXd d => [0xDD, 0x46, displacementByte d]
  | .ld_C_IXH => [0xDD, 0x4C]
  | .ld_C_IXL => [0xDD, 0x4D]
  | .ld_C_mIXd d => [0xDD, 0x4E, displacementByte d]
  | .ld_D_IXH => [0xDD, 0x54]
  | .ld_D_IXL => [0xDD, 0x55]
  | .ld_D_mIXd d => [0xDD, 0x56, displacementByte d]
  | .ld_E_IXH => [0xDD, 0x5C]
  | .ld_E_IXL => [0xDD, 0x5D]
  | .ld_E_mIXd d => [0xDD, 0x5E, displacementByte d]
  | .ld_IXH_B => [0xDD, 0x60]
  | .ld_IXH_C => [0xDD, 0x61]
  | .ld_IXH_D => [0xDD, 0x62]
  | .ld_IXH_E => [0xDD, 0x63]
  | .ld_IXH_IXH => [0xDD, 0x64]
  | .ld_IXH_IXL => [0xDD, 0x65]
  | .ld_H_mIXd d => [0xDD, 0x66, displacementByte d]
  | .ld_IXH_A => [0xDD, 0x67]
  | .ld_IXL_B => [0xDD, 0x68]
  | .ld_IXL_C => [0xDD, 0x69]
  | .ld_IXL_D => [0xDD, 0x6A]
  | .ld_IXL_E => [0xDD, 0x6B]
  | .ld_IXL_IXH => [0xDD, 0x6C]
  | .ld_IXL_IXL => [0xDD, 0x6D]
  | .ld_L_mIXd d => [0xDD, 0x6E, displacementByte d]
  | .ld_IXL_A => [0xDD, 0x6F]
  | .ld_mIXd_B d => [0xDD, 0x70, displacementByte d]
  | .ld_mIXd_C d => [0xDD, 0x71, displacementByte d]
  | .ld_mIXd_D d => [0xDD, 0x72, displacementByte d]
  | .ld_mIXd_E d => [0xDD, 0x73, displacementByte d]
  | .ld_mIXd_H d => [0xDD, 0x74, displacementByte d]
  | .ld_mIXd_L d => [0xDD, 0x75, displacementByte d]
  | .ld_mIXd_A d => [0xDD, 0x77, displacementByte d]
  | .ld_A_IXH => [0xDD, 0x7C]
  | .ld_A_IXL => [0xDD, 0x7D]
  | .ld_A_mIXd d => [0xDD, 0x7E, displacementByte d]
  | .add_A_IXH => [0xDD, 0x84]
  | .add_A_IXL => [0xDD, 0x85]
  | .add_A_mIXd d => [0xDD, 0x86, displacementByte d]
  | .adc_A_IXH => [0xDD, 0x8C]
  | .adc_A_IXL => [0xDD, 0x8D]
  | .adc_A_mIXd d => [0xDD, 0x8E, displacementByte d]
  | .sub_IXH => [0xDD, 0x94]
  | .sub_IXL => [0xDD, 0x95]
  | .sub_mIXd d => [0xDD, 0x96, displacementByte d]
  | .sbc_A_IXH => [0xDD, 0x9C]
  | .sbc_A_IXL => [0xDD, 0x9D]
  | .sbc_A_mIXd d => [0xDD, 0x9E, displacementByte d]
  | .and_IXH => [0xDD, 0xA4]
  | .and_IXL => [0xDD, 0xA5]
  | .and_mIXd d => [0xDD, 0xA6, displacementByte d]
  | .xor_IXH => [0xDD, 0xAC]
  | .xor_IXL => [0xDD, 0xAD]
  | .xor_mIXd d => [0xDD, 0xAE, displacementByte d]
  | .or_IXH => [0xDD, 0xB4]
  | .or_IXL => [0xDD, 0xB5]
  | .or_mIXd d => [0xDD, 0xB6, displacementByte d]
  | .cp_IXH => [0xDD, 0xBC]
  | .cp_IXL => [0xDD, 0xBD]
  | .cp_mIXd d => [0xDD, 0xBE, displacementByte d]
  | .pop_IX => [0xDD, 0xE1]
  | .ex_mSP_IX => [0xDD, 0xE3]
  | .push_IX => [0xDD, 0xE5]
  | .jp_mIX => [0xDD, 0xE9]
  | .ld_SP_IX => [0xDD, 0xF9]
  | .rlc_mIXd d => [0xDD, 0xCB, displacementByte d, 0x06]
  | .rrc_mIXd d => [0xDD, 0xCB, displacementByte d, 0x0E]
  | .rl_mIXd d => [0xDD, 0xCB, displacementByte d, 0x16]
  | .rr_mIXd d => [0xDD, 0xCB, displacementByte d, 0x1E]
  | .sla_mIXd d => [0xDD, 0xCB, displacementByte d, 0x26]
  | .sra_mIXd d => [0xDD, 0xCB, displacementByte d, 0x2E]
  | .sll_mIXd d => [0xDD, 0xCB, displacementByte d, 0x36]
  | .srl_mIXd d => [0xDD, 0xCB, displacementByte d, 0x3E]
  | .bit_0_mIXd d => [0xDD, 0xCB, displacementByte d, 0x46]
  | .bit_1_mIXd d => [0xDD, 0xCB, displacementByte d, 0x4E]
  | .bit_2_mIXd d => [0xDD, 0xCB, displacementByte d, 0x56]
  | .bit_3_mIXd d => [0xDD, 0xCB, displacementByte d, 0x5E]
  | .bit_4_mIXd d => [0xDD, 0xCB, displacementByte d, 0x66]
  | .bit_5_mIXd d => [0xDD, 0xCB, displacementByte d, 0x6E]
  | .bit_6_mIXd d => [0xDD, 0xCB, displacementByte d, 0x76]
  | .bit_7_mIXd d => [0xDD, 0xCB, displacementByte d, 0x7E]
  | .res_0_mIXd d => [0xDD, 0xCB, displacementByte d, 0x86]
  | .res_1_mIXd d => [0xDD, 0xCB, displacementByte d, 0x8E]
  | .res_2_mIXd d => [0xDD, 0xCB, displacementByte d, 0x96]
  | .res_3_mIXd d => [0xDD, 0xCB, displacementByte d, 0x9E]
  | .res_4_mIXd d => [0xDD, 0xCB, displacementByte d, 0xA6]
  | .res_5_mIXd d => [0xDD, 0xCB, displacementByte d, 0xAE]
  | .res_6_mIXd d => [0xDD, 0xCB, displacementByte d, 0xB6]
  | .res_7_mIXd d => [0xDD, 0xCB, displacementByte d, 0xBE]
  | .set_0_mIXd d => [0xDD, 0xCB, displacementByte d, 0xC6]
  | .set_1_mIXd d => [0xDD, 0xCB, displacementByte d, 0xCE]
  | .set_2_mIXd d => [0xDD, 0xCB, displacementByte d, 0xD6]
  | .set_3_mIXd d => [0xDD, 0xCB, displacementByte d, 0xDE]
  | .set_4_mIXd d => [0xDD, 0xCB, displacementByte d, 0xE6]
  | .set_5_mIXd d => [0xDD, 0xCB, displacementByte d, 0xEE]
  | .set_6_mIXd d => [0xDD, 0xCB, displacementByte d, 0xF6]
  | .set_7_mIXd d => [0xDD, 0xCB, displacementByte d, 0xFE]
  | .add_IY_BC => [0xFD, 0x09]
  | .add_IY_DE => [0xFD, 0x19]
  | .ld_IY_nn nn => [0xFD, 0x21, loByte nn, hiByte nn]
  | .ld_mnn_IY nn => [0xFD, 0x22, loByte nn, hiByte nn]
  | .inc_IY => [0xFD, 0x23]
  | .inc_IYH => [0xFD, 0x24]
  | .dec_IYH => [0xFD, 0x25]
  | .ld_IYH_n n => [0xFD, 0x26, n]
  | .add_IY_IY => [0xFD, 0x29]
  | .ld_IY_mnn nn => [0xFD, 0x2A, loByte nn, hiByte nn]
  | .dec_IY => [0xFD, 0x2B]
  | .inc_IYL => [0xFD, 0x2C]
  | .dec_IYL => [0xFD, 0x2D]
  | .ld_IYL_n n => [0xFD, 0x2E, n]
  | .inc_mIYd d => [0xFD, 0x34, displacementByte d]
  | .dec_mIYd d => [0xFD, 0x35, displacementByte d]
  | .ld_mIYd_n d n => [0xFD, 0x36, displacementByte d, n]
  | .add_IY_SP => [0xFD, 0x39]
  | .ld_B_IYH => [0xFD, 0x44]
  | .ld_B_IYL => [0xFD, 0x45]
  | .ld_B_mIYd d => [0xFD, 0x46, displacementByte d]
  | .ld_C_IYH => [0xFD, 0x4C]
  | .ld_C_IYL => [0xFD, 0x4D]
  | .ld_C_mIYd d => [0xFD, 0x4E, displacementByte d]
  | .ld_D_IYH => [0xFD, 0x54]
  | .ld_D_IYL => [0xFD, 0x55]
  | .ld_D_mIYd d => [0xFD, 0x56, displacementByte d]
  | .ld_E_IYH => [0xFD, 0x5C]
  | .ld_E_IYL => [0xFD, 0x5D]
  | .ld_E_mIYd d => [0xFD, 0x5E, displacementByte d]
  | .ld_IYH_B => [0xFD, 0x60]
  | .ld_IYH_C => [0xFD, 0x61]
  | .ld_IYH_D => [0xFD, 0x62]
  | .ld_IYH_E => [0xFD, 0x63]
  | .ld_IYH_IYH => [0xFD, 0x64]
  | .ld_IYH_IYL => [0xFD, 0x65]
  | .ld_H_mIYd d => [0xFD, 0x66, displacementByte d]
  | .ld_IYH_A => [0xFD, 0x67]
  | .ld_IYL_B => [0xFD, 0x68]
  | .ld_IYL_C => [0xFD, 0x69]
  | .ld_IYL_D => [0xFD, 0x6A]
  | .ld_IYL_E => [0xFD, 0x6B]
  | .ld_IYL_IYH => [0xFD, 0x6C]
  | .ld_IYL_IYL => [0xFD, 0x6D]
  | .ld_L_mIYd d => [0xFD, 0x6E, displacementByte d]
  | .ld_IYL_A => [0xFD, 0x6F]
  | .ld_mIYd_B d => [0xFD, 0x70, displacementByte d]
  | .ld_mIYd_C d => [0xFD, 0x71, displacementByte d]
  | .ld_mIYd_D d => [0xFD, 0x72, displacementByte d]
  | .ld_mIYd_E d => [0xFD, 0x73, displacementByte d]
  | .ld_mIYd_H d => [0xFD, 0x74, displacementByte d]
  | .ld_mIYd_L d => [0xFD, 0x75, displacementByte d]
  | .ld_mIYd_A d => [0xFD, 0x77, displacementByte d]
  | .ld_A_IYH => [0xFD, 0x7C]
  | .ld_A_IYL => [0xFD, 0x7D]
  | .ld_A_mIYd d => [0xFD, 0x7E, displacementByte d]
  | .add_A_IYH => [0xFD, 0x84]
  | .add_A_IYL => [0xFD, 0x85]
  | .add_A_mIYd d => [0xFD, 0x86, displacementByte d]
  | .adc_A_IYH => [0xFD, 0x8C]
  | .adc_A_IYL => [0xFD, 0x8D]
  | .adc_A_mIYd d => [0xFD, 0x8E, displacementByte d]
  | .sub_IYH => [0xFD, 0x94]
  | .sub_IYL => [0xFD, 0x95]
  | .sub_mIYd d => [0xFD, 0x96, displacementByte d]
  | .sbc_A_IYH => [0xFD, 0x9C]
  | .sbc_A_IYL => [0xFD, 0x9D]
  | .sbc_A_mIYd d => [0xFD, 0x9E, displacementByte d]
  | .and_IYH => [0xFD, 0xA4]
  | .and_IYL => [0xFD, 0xA5]
  | .and_mIYd d => [0xFD, 0xA6, displacementByte d]
  | .xor_IYH => [0xFD, 0xAC]
  | .xor_IYL => [0xFD, 0xAD]
  | .xor_mIYd d => [0xFD, 0xAE, displacementByte d]
  | .or_IYH => [0xFD, 0xB4]
  | .or_IYL => [0xFD, 0xB5]
  | .or_mIYd d => [0xFD, 0xB6, displacementByte d]
  | .cp_IYH => [0xFD, 0xBC]
  | .cp_IYL => [0xFD, 0xBD]
  | .cp_mIYd d => [0xFD, 0xBE, displacementByte d]
  | .pop_IY => [0xFD, 0xE1]
  | .ex_mSP_IY => [0xFD, 0xE3]
  | .push_IY => [0xFD, 0xE5]
  | .jp_mIY => [0xFD, 0xE9]
  | .ld_SP_IY => [0xFD, 0xF9]
  | .rlc_mIYd d => [0xFD, 0xCB, displacementByte d, 0x06]
  | .rrc_mIYd d => [0xFD, 0xCB, displacementByte d, 0x0E]
  | .rl_mIYd d => [0xFD, 0xCB, displacementByte d, 0x16]
  | .rr_mIYd d => [0xFD, 0xCB, displacementByte d, 0x1E]
  | .sla_mIYd d => [0xFD, 0xCB, displacementByte d, 0x26]
  | .sra_mIYd d => [0xFD, 0xCB, displacementByte d, 0x2E]
  | .sll_mIYd d => [0xFD, 0xCB, displacementByte d, 0x36]
  | .srl_mIYd d => [0xFD, 0xCB, displacementByte d, 0x3E]
  | .bit_0_mIYd d => [0xFD, 0xCB, displacementByte d, 0x46]
  | .bit_1_mIYd d => [0xFD, 0xCB, displacementByte d, 0x4E]
  | .bit_2_mIYd d => [0xFD, 0xCB, displacementByte d, 0x56]
  | .bit_3_mIYd d => [0xFD, 0xCB, displacementByte d, 0x5E]
  | .bit_4_mIYd d => [0xFD, 0xCB, displacementByte d, 0x66]
  | .bit_5_mIYd d => [0xFD, 0xCB, displacementByte d, 0x6E]
  | .bit_6_mIYd d => [0xFD, 0xCB, displacementByte d, 0x76]
  | .bit_7_mIYd d => [0xFD, 0xCB, displacementByte d, 0x7E]
  | .res_0_mIYd d => [0xFD, 0xCB, displacementByte d, 0x86]
  | .res_1_mIYd d => [0xFD, 0xCB, displacementByte d, 0x8E]
  | .res_2_mIYd d => [0xFD, 0xCB, displacementByte d, 0x96]
  | .res_3_mIYd d => [0xFD, 0xCB, displacementByte d, 0x9E]
  | .res_4_mIYd d => [0xFD, 0xCB, displacementByte d, 0xA6]
  | .res_5_mIYd d => [0xFD, 0xCB, displacementByte d, 0xAE]
  | .res_6_mIYd d => [0xFD, 0xCB, displacementByte d, 0xB6]
  | .res_7_mIYd d => [0xFD, 0xCB, displacementByte d, 0xBE]
  | .set_0_mIYd d => [0xFD, 0xCB, displacementByte d, 0xC6]
  | .set_1_mIYd d => [0xFD, 0xCB, displacementByte d, 0xCE]
  | .set_2_mIYd d => [0xFD, 0xCB, displacementByte d, 0xD6]
  | .set_3_mIYd d => [0xFD, 0xCB, displacementByte d, 0xDE]
  | .set_4_mIYd d => [0xFD, 0xCB, displacementByte d, 0xE6]
  | .set_5_mIYd d => [0xFD, 0xCB, displacementByte d, 0xEE]
  | .set_6_mIYd d => [0xFD, 0xCB, displacementByte d, 0xF6]
  | .set_7_mIYd d => [0xFD, 0xCB, displacementByte d, 0xFE]

end Sys2Proof
end

