-- ==== Sys2Proof/Machine/Fetch.lean ====
section
/-! DEFINITION. Fetching an instruction's bytes, and storing bytes where the next step fetches them (30_encoding.md R93). -/

namespace Sys2Proof.Machine

/-- What four reads from PC on answer, mod 2^16: no instruction is longer (R90; log entry 11). -/
def fetchWindow (s : State) : List Byte :=
  [s.memAnswer 0 s.PC, s.memAnswer 1 (s.PC + 1), s.memAnswer 2 (s.PC + 2), s.memAnswer 3 (s.PC + 3)]

/-- `n` calls of `Fetch()` (R12): each reads the byte at PC and moves PC on. -/
def fetchBytes (n : Nat) (s : State) : State :=
  match n with
  | 0 => s
  | k + 1 => fetchBytes k { (s.memRead s.PC).2 with PC := s.PC + 1 }

/-- How many of an instruction's bytes are opcode fetches for R (R34): the first, and the byte after a lead byte CB, ED, DD
or FD. -/
def opcodeFetches (first : Byte) : Nat :=
  if first = 0xCB ∨ first = 0xED ∨ first = 0xDD ∨ first = 0xFD then 2 else 1

/-- A new event: nothing is recorded or reported yet (R440). -/
def beginEvent (s : State) : State := { s with accesses := [], report := none }

/-- The bit of R394 is cleared by a step, where the core has it. -/
def clearEiPending (p : Params) (s : State) : State := { s with eiPending := !p.eiDelay && s.eiPending }

/-- The state in which an instruction of `n` bytes executes (R93): its bytes were read in address order and PC is PCn. -/
def fetched (p : Params) (n : Nat) (s : State) : State :=
  refresh p (opcodeFetches (s.peek s.PC)) (fetchBytes n (clearEiPending p (beginEvent s)))

/-- The step ends in E1 DecodeError (R106, R410): the bytes it carries were read, the error is reported, and every field of the
core is as before, PC at the first byte. -/
def decodeError (bytes : List Byte) (s : State) : State :=
  { fetchBytes bytes.length (beginEvent s) with PC := s.PC }.raise (.decodeError s.PC bytes)

/-- An idle step while halted (R391): no access, no register changed. -/
def idleStep (p : Params) (s : State) : State := refresh p 1 (clearEiPending p (beginEvent s))

/-- A byte put in memory by the host: no request of the core (R77), so no device ignores it. -/
def State.poke (s : State) (a : Word) (v : Byte) : State := { s with mem := s.mem.write a.toNat v }

/-- Bytes put in memory by the host from address `a` on, mod 2^16. -/
def State.pokeList (s : State) (a : Word) (bs : List Byte) : State :=
  match bs with
  | [] => s
  | b :: rest => (s.poke a b).pokeList (a + 1) rest

end Sys2Proof.Machine
end

