-- ==== Sys2Proof/Machine/HostAccess.lean ====
section
/-! DEFINITION. The host's writes of core state between two events (70_reset_and_hazards.md R452, 10_state.md R51). -/

namespace Sys2Proof.Machine

/-- A host's number as a boolean field: masked to the field's one bit (R452; log entry 8). -/
def hostBit (v : Nat) : Bool := decide (v % 2 = 1)

/-- A host write (R452): the value is masked to the field's width; a write of IM outside 0, 1 and 2 is
rejected, IM keeps its value, and E3 is reported (R412). -/
def hostWrite (field : HostField) (v : Nat) (s : State) : State :=
  match field with
  | .A => { s with A := BitVec.ofNat 8 v }
  | .F => { s with F := Flags.unpack (BitVec.ofNat 8 v) }
  | .B => { s with B := BitVec.ofNat 8 v }
  | .C => { s with C := BitVec.ofNat 8 v }
  | .D => { s with D := BitVec.ofNat 8 v }
  | .E => { s with E := BitVec.ofNat 8 v }
  | .H => { s with H := BitVec.ofNat 8 v }
  | .L => { s with L := BitVec.ofNat 8 v }
  | .A' => { s with A' := BitVec.ofNat 8 v }
  | .F' => { s with F' := BitVec.ofNat 8 v }
  | .B' => { s with B' := BitVec.ofNat 8 v }
  | .C' => { s with C' := BitVec.ofNat 8 v }
  | .D' => { s with D' := BitVec.ofNat 8 v }
  | .E' => { s with E' := BitVec.ofNat 8 v }
  | .H' => { s with H' := BitVec.ofNat 8 v }
  | .L' => { s with L' := BitVec.ofNat 8 v }
  | .IX => { s with IX := BitVec.ofNat 16 v }
  | .IY => { s with IY := BitVec.ofNat 16 v }
  | .SP => { s with SP := BitVec.ofNat 16 v }
  | .PC => { s with PC := BitVec.ofNat 16 v }
  | .I => { s with I := BitVec.ofNat 8 v }
  | .R => { s with R := BitVec.ofNat 8 v }
  | .IFF1 => { s with IFF1 := hostBit v }
  | .IFF2 => { s with IFF2 := hostBit v }
  | .Halted => { s with Halted := hostBit v }
  | .IM =>
    match v with
    | 0 => { s with IM := .im0 }
    | 1 => { s with IM := .im1 }
    | 2 => { s with IM := .im2 }
    | _ + 3 => s.raise (.invalidInterruptMode v)

end Sys2Proof.Machine
end

