-- ==== Sys2Proof/Machine/Events.lean ====
section
/-! DEFINITION. The four events of the core (60_exceptions.md R440) and the host's actions. -/

namespace Sys2Proof.Machine

/-- One fetch-decode-execute cycle: `step()` of R93. A halted core idles (R391); a sequence no layer defines ends the step with
DecodeError (R106, R410). -/
def stepEvent (s : State) : Result :=
  if s.Halted then .next (idleStep Config.params s)
  else
    match decode (fetchWindow s) with
    | .error why => .next (decodeError why.bytes s)
    | .ok (i, rest) => exec i (fetched Config.params (4 - rest.length) s)

/-- What the host does next (R440, R452). A write of core state is no event: the record of the last event stays,
and only an error of the write itself is reported. -/
def perform (a : HostAction) (s : State) : Result :=
  match a with
  | .step => stepEvent s
  | .maskable bus => .next (maskableInterrupt Config.params bus (beginEvent s))
  | .nmi => .next (nonMaskableInterrupt Config.params (beginEvent s))
  | .reset => .next (resetEvent s)
  | .write field v => .next (hostWrite field v { s with report := none })

end Sys2Proof.Machine
end

