-- ==== Sys2Proof/Machine/Step.lean ====
section
/-! DEFINITION. One step of the model: the next action of the host, which is `step()` unless the schedule says otherwise. -/

namespace Sys2Proof.Machine

/-- One event (60_exceptions.md R440). With an empty schedule the host calls `step()`; otherwise it does what the schedule lists
first (log entry 6). -/
def step (s : State) : Host.Outcome State Fault Refusal :=
  match s.schedule with
  | [] => stepEvent s
  | a :: rest => perform a { s with schedule := rest }

/-- The bytes of the instruction a table word stands for; all four bytes where it is none. -/
def instructionBytes (nbits w : Nat) : List Byte :=
  match decode (tableBytes nbits w) with
  | .ok (i, _) => encode i
  | .error _ => tableBytes nbits w

/-- The state with the bytes of an instruction put where the next step fetches, the core running and nothing scheduled before
that step: in the contents of the memory device, or among the answers of an external one (log entry 7). -/
def State.withFetchWord (s : State) (nbits w : Nat) : State :=
  let s := { s with Halted := false, schedule := [] }
  match s.memDevice with
  | .plainRam => s.pokeList s.PC (tableBytes nbits w)
  | .protectedRam _ => s.pokeList s.PC (tableBytes nbits w)
  | .external => { s with memAnswers := instructionBytes nbits w ++ s.memAnswers }

end Sys2Proof.Machine
end

