-- ==== Sys2Proof/Safety.lean ====
section
/-! DEFINITION. What counts as a safe run: every step completes without an error, and the state keeps its invariant. -/

namespace Sys2Proof.Safety

open Sys2Proof.Machine

/-- A step completes: it answers a next state and reports no error (60_exceptions.md R410). -/
def Completes (s : State) : Prop := ∃ t, step s = .next t ∧ t.report = none

/-- The invariant of the state: memory is in canonical form (20_memory.md R77 as the model holds it), and the bit that only
`EI_DELAY = true` gives the core is clear (10_state.md R39). -/
def Inv (s : State) : Prop := s.mem.wf = true ∧ s.eiPending = false

/-- The contents of a memory device after the writes among some requests are delivered to it in order (20_memory.md R63, R71). -/
def deliver (d : MemDevice) (xs : List Access) (m : Memory) : Memory :=
  match xs with
  | [] => m
  | .memWrite a v :: rest => deliver d rest (d.write m a v)
  | .memRead _ _ :: rest => deliver d rest m
  | .ioRead _ _ :: rest => deliver d rest m
  | .ioWrite _ _ :: rest => deliver d rest m
  | .dataBus _ :: rest => deliver d rest m

/-- A run of steps. It goes on after an error: the core is ready for another event (R410). -/
inductive Run : State → State → Prop where
  | done (s : State) : Run s s
  | more (s t u : State) (h : step s = .next t) (r : Run t u) : Run s u

/-- A state from which no run meets an error or a refusal. -/
def Safe (s : State) : Prop := ∀ t, Run s t → Completes t

end Sys2Proof.Safety
end

