-- ==== Sys2Proof/Certificates/Slice0/Obligations.lean ====
section
/-! DEFINITION. The statements for the provers, and the vocabulary they are written in. In every statement about an instruction PC
holds PCn when `exec` starts (30_encoding.md R93). A statement over `Form.instr` is a statement about each row of the opcode table
that the shape stands for (Syntax.lean lists them). -/

namespace Sys2Proof.Claims

open Sys2Proof.Machine

/-! ## Vocabulary -/

/-- The core runs and the host will call `step()` next. -/
def Running (s : State) : Prop := s.schedule = [] ∧ s.Halted = false

/-- The register codes of 10_state.md R22. -/
def regCode (r : Reg8) : Nat :=
  match r with
  | .B => 0 | .C => 1 | .D => 2 | .E => 3 | .H => 4 | .L => 5 | .A => 7

/-- The pair codes of R23. -/
def rpCode (p : Rp) : Nat :=
  match p with
  | .BC => 0 | .DE => 1 | .HL => 2 | .SP => 3

/-- The operation codes of 40_alu8.md R140. -/
def aluCode (op : AluOp) : Nat :=
  match op with
  | .ADD => 0 | .ADC => 1 | .SUB => 2 | .SBC => 3 | .AND => 4 | .XOR => 5 | .OR => 6 | .CP => 7

/-- The operation codes of 42_rotate_shift.md R205. -/
def rotCode (op : RotOp) : Nat :=
  match op with
  | .RLC => 0 | .RRC => 1 | .RL => 2 | .RR => 3 | .SLA => 4 | .SRA => 5 | .SLL => 6 | .SRL => 7

/-- The condition codes of 46_control_flow.md R330. -/
def condCode (c : Cond) : Nat :=
  match c with
  | .NZ => 0 | .Z => 1 | .NC => 2 | .C => 3 | .PO => 4 | .PE => 5 | .P => 6 | .M => 7

/-- The lead byte of an index register (30_encoding.md R91). -/
def leadByte (x : Idx) : Byte :=
  match x with
  | .IX => 0xDD
  | .IY => 0xFD

/-- The lead byte of a form that names HL, IX or IY: none for HL (R105). -/
def leadOf (x : Xx) : List Byte :=
  match x with
  | .HL => []
  | .IX => [0xDD]
  | .IY => [0xFD]

/-- The lead byte and the pair code of a form that names BC, DE, HL, SP, IX or IY (R23, R105). -/
def rrCode (r : Rr) : List Byte × Nat :=
  match r with
  | .BC => ([], 0) | .DE => ([], 1) | .HL => ([], 2) | .SP => ([], 3)
  | .IX => ([0xDD], 2) | .IY => ([0xFD], 2)

/-- The lead byte and the pair code of a PUSH or POP form (R23 `rp2`, R105). -/
def qqCode (q : Qq) : List Byte × Nat :=
  match q with
  | .BC => ([], 0) | .DE => ([], 1) | .HL => ([], 2) | .AF => ([], 3)
  | .IX => ([0xDD], 2) | .IY => ([0xFD], 2)

/-- The low bit of the opcode of a half form: 4 names XH, 5 names XL (R105(c)). -/
def sideCode (h : Side) : Nat :=
  match h with
  | .H => 4
  | .L => 5

/-- A byte written as a number. -/
def byte (n : Nat) : Byte := BitVec.ofNat 8 n

/-- The bytes of an ALU instruction (40_alu8.md R140: `10yyyzzz`, `11yyy110 n`, `P 10yyy110 d`, `P 10yyy100`, `P 10yyy101`). -/
def aluBytes (op : AluOp) (src : AluSrc) : List Byte :=
  match src with
  | .reg r => [byte (0x80 + 8 * aluCode op + regCode r)]
  | .half x h => [leadByte x, byte (0x80 + 8 * aluCode op + sideCode h)]
  | .memHL => [byte (0x86 + 8 * aluCode op)]
  | .memIdx x d => [leadByte x, byte (0x86 + 8 * aluCode op), displacementByte d]
  | .imm n => [byte (0xC6 + 8 * aluCode op), n]

/-- The fields of an opcode byte: `x`, `y`, `z` (R92). -/
def opX (op : Byte) : Nat := op.toNat / 64
def opY (op : Byte) : Nat := op.toNat / 8 % 8
def opZ (op : Byte) : Nat := op.toNat % 8

/-- The ED bytes of R98, by their fields. -/
def edAdmitted (op : Byte) : Bool :=
  (opX op == 1 &&
    ((opZ op == 0 && opY op != 6) || (opZ op == 1 && opY op != 6) || opZ op == 2 || opZ op == 3 ||
      [0x44, 0x45, 0x4D, 0x46, 0x56, 0x5E, 0x47, 0x4F, 0x57, 0x5F, 0x67, 0x6F].contains op.toNat)) ||
  (opX op == 2 && decide (opY op ≥ 4) && decide (opZ op ≤ 3))

/-- The bytes after DD or FD that have an index form (R113): the half forms as that rule lists them, and the documented forms of
R105(a) and (b). -/
def indexAdmitted (op : Byte) : Bool :=
  [0x24, 0x25, 0x26, 0x2C, 0x2D, 0x2E, 0x44, 0x45, 0x4C, 0x4D, 0x54, 0x55, 0x5C, 0x5D, 0x60, 0x61, 0x62, 0x63, 0x64, 0x65,
    0x67, 0x68, 0x69, 0x6A, 0x6B, 0x6C, 0x6D, 0x6F, 0x7C, 0x7D, 0x84, 0x85, 0x8C, 0x8D, 0x94, 0x95, 0x9C, 0x9D, 0xA4, 0xA5,
    0xAC, 0xAD, 0xB4, 0xB5, 0xBC, 0xBD].contains op.toNat ||
  [0x09, 0x19, 0x21, 0x22, 0x23, 0x29, 0x2A, 0x2B, 0x39, 0xE1, 0xE3, 0xE5, 0xE9, 0xF9].contains op.toNat ||
  [0x34, 0x35, 0x36, 0x46, 0x4E, 0x56, 0x5E, 0x66, 0x6E, 0x7E, 0x70, 0x71, 0x72, 0x73, 0x74, 0x75, 0x77, 0x86, 0x8E, 0x96,
    0x9E, 0xA6, 0xAE, 0xB6, 0xBE].contains op.toNat

/-- The addresses of `n` bytes from `a` on, mod 2^16. -/
def addrsFrom (a : Word) (n : Nat) : List Word := (List.range n).map (fun k => a + BitVec.ofNat 16 k)

/-- After reads of these addresses in order: each was answered, by a draw where the memory device answers by draws (20_memory.md
R63), and recorded. Nothing else changes. -/
def afterReads (s : State) (addrs : List Word) : State :=
  { s with
    memAnswers := s.memAnswers.drop (s.memDevice.draws addrs.length)
    draws := s.draws + s.memDevice.draws addrs.length
    accesses := s.accesses ++ addrs.zipIdx.map (fun p => .memRead p.1 (s.memAnswer p.2 p.1)) }

/-- The word at `a` as two reads answer it, the low byte first (R66). -/
def wordAt (s : State) (a : Word) : Word := joinBytes (s.memAnswer 1 (a + 1)) (s.memAnswer 0 a)

/-- An event has begun: nothing is recorded or reported yet (60_exceptions.md R440; log entries 5 and 14). -/
def begun (s : State) : State := { s with accesses := [], report := none }

/-- The state in which an instruction of `n` bytes executes: its bytes were read, in address order, and PC is PCn (R93). -/
def AfterFetch (s : State) (n : Nat) : State :=
  { afterReads (begun s) (addrsFrom s.PC n) with PC := s.PC + BitVec.ofNat 16 n }

/-- The state a step that ends in DecodeError leaves: the reads of the bytes it carries were made, the error is reported, and
nothing else changed (60_exceptions.md R410). -/
def AfterError (s : State) (bytes : List Byte) : State :=
  { afterReads (begun s) (addrsFrom s.PC bytes.length) with report := some (.decodeError s.PC bytes) }

/-- A field of the core state as the host reads it, as a number (70_reset_and_hazards.md R452). -/
def fieldValue (s : State) (field : HostField) : Nat :=
  match field with
  | .A => s.A.toNat | .F => s.F.pack.toNat | .B => s.B.toNat | .C => s.C.toNat
  | .D => s.D.toNat | .E => s.E.toNat | .H => s.H.toNat | .L => s.L.toNat
  | .A' => s.A'.toNat | .F' => s.F'.toNat | .B' => s.B'.toNat | .C' => s.C'.toNat
  | .D' => s.D'.toNat | .E' => s.E'.toNat | .H' => s.H'.toNat | .L' => s.L'.toNat
  | .IX => s.IX.toNat | .IY => s.IY.toNat | .SP => s.SP.toNat | .PC => s.PC.toNat
  | .I => s.I.toNat | .R => s.R.toNat
  | .IFF1 => bitNat s.IFF1 | .IFF2 => bitNat s.IFF2 | .Halted => bitNat s.Halted
  | .IM =>
    match s.IM with
    | .im0 => 0
    | .im1 => 1
    | .im2 => 2

/-- The width of a field (10_state.md R20). -/
def fieldWidth (field : HostField) : Nat :=
  match field with
  | .IX => 16 | .IY => 16 | .SP => 16 | .PC => 16
  | .IFF1 => 1 | .IFF2 => 1 | .Halted => 1
  | .IM => 2
  | _ => 8

/-- The register halves of a pair. -/
def pairRegs (r : Reg16) : List Reg8 :=
  match r with
  | .BC => [.B, .C]
  | .DE => [.D, .E]
  | .HL => [.H, .L]
  | .AF => [.A]
  | .SP => []
  | .IX => []
  | .IY => []

/-- The 8-bit register a place is. -/
def placeReg (p : Place8) : List Reg8 :=
  match p with
  | .reg r => [r]
  | .half _ _ => []
  | .mem _ => []

/-- The index register a place is a half of. -/
def placeIdx (p : Place8) : List Reg16 :=
  match p with
  | .reg _ => []
  | .half x _ => [x.reg]
  | .mem _ => []

/-- The address a place is stored at. -/
def placeAddr (p : Place8) (s : State) : List Word :=
  match p with
  | .reg _ => []
  | .half _ _ => []
  | .mem ea => [s.addr ea]

/-- The 8-bit registers an instruction may change: its destinations and the pointers and counters its rule names. -/
def dest8 (f : Form) : List Reg8 :=
  match f with
  | .alu op _ => if op = .CP then [] else [.A]
  | .incM m => placeReg m.place
  | .decM m => placeReg m.place
  | .daa => [.A] | .cpl => [.A] | .neg => [.A]
  | .add16 dst _ => pairRegs dst.reg
  | .adc16 _ => [.H, .L] | .sbc16 _ => [.H, .L]
  | .inc16 rr => pairRegs rr.reg
  | .dec16 rr => pairRegs rr.reg
  | .rlca => [.A] | .rrca => [.A] | .rla => [.A] | .rra => [.A]
  | .rot _ m => placeReg m.place
  | .rld => [.A] | .rrd => [.A]
  | .set _ m => placeReg m.place
  | .res _ m => placeReg m.place
  | .ldi => [.B, .C, .D, .E, .H, .L] | .ldd => [.B, .C, .D, .E, .H, .L]
  | .ldir => [.B, .C, .D, .E, .H, .L] | .lddr => [.B, .C, .D, .E, .H, .L]
  | .cpi => [.B, .C, .H, .L] | .cpd => [.B, .C, .H, .L] | .cpir => [.B, .C, .H, .L] | .cpdr => [.B, .C, .H, .L]
  | .ini => [.B, .H, .L] | .ind => [.B, .H, .L] | .inir => [.B, .H, .L] | .indr => [.B, .H, .L]
  | .outi => [.B, .H, .L] | .outd => [.B, .H, .L] | .otir => [.B, .H, .L] | .otdr => [.B, .H, .L]
  | .ldRegReg dst _ => [dst]
  | .ldRegImm r _ => [r]
  | .ldRegHL r => [r]
  | .ldRegIdx r _ _ => [r]
  | .ldAPair _ => [.A] | .ldAMem _ => [.A]
  | .ldRegHalf r _ _ => [r.reg]
  | .ldAI => [.A] | .ldAR => [.A]
  | .ldRrImm rr _ => pairRegs rr.reg
  | .ldHLMem _ => [.H, .L]
  | .ldRpMem p _ => pairRegs p.reg
  | .exDEHL => [.D, .E, .H, .L]
  | .exAF => [.A]
  | .exx => [.B, .C, .D, .E, .H, .L]
  | .exSP xx => pairRegs xx.reg
  | .pop q => pairRegs q.reg
  | .djnz _ => [.B]
  | .inReg r => [r]
  | .inA _ => [.A]
  | .ccf | .scf | .bit _ _ | .ldHLReg _ | .ldIdxReg _ _ _ | .ldHLImm _ | .ldIdxImm _ _ _ | .ldPairA _ | .ldMemA _
  | .ldHalfReg _ _ _ | .ldHalfHalf _ _ _ | .ldHalfImm _ _ _ | .ldIA | .ldRA | .ldIdxMem _ _ | .stHLMem _
  | .stRpMem _ _ | .stIdxMem _ _ | .ldSP _ | .push _ | .jp _ | .jpCc _ _ | .jr _ | .jrCc _ _ | .jpReg _ | .call _
  | .callCc _ _ | .ret | .retCc _ | .reti | .retn | .rst _ | .outReg _ | .outA _ | .nop | .halt | .di | .ei | .im _ => []

/-- Of IX, IY and SP, those an instruction may change. -/
def dest16 (f : Form) : List Reg16 :=
  match f with
  | .incM m => placeIdx m.place
  | .decM m => placeIdx m.place
  | .add16 dst _ => [dst.reg]
  | .inc16 rr => [rr.reg]
  | .dec16 rr => [rr.reg]
  | .ldHalfReg x _ _ => [x.reg]
  | .ldHalfHalf x _ _ => [x.reg]
  | .ldHalfImm x _ _ => [x.reg]
  | .ldRrImm rr _ => [rr.reg]
  | .ldRpMem p _ => [p.reg]
  | .ldIdxMem x _ => [x.reg]
  | .ldSP _ => [.SP]
  | .exSP xx => [xx.reg]
  | .push _ => [.SP]
  | .pop q => [.SP, q.reg]
  | .call _ => [.SP] | .callCc _ _ => [.SP]
  | .ret => [.SP] | .retCc _ => [.SP] | .reti => [.SP] | .retn => [.SP]
  | .rst _ => [.SP]
  | .alu _ _ | .daa | .cpl | .neg | .ccf | .scf | .adc16 _ | .sbc16 _ | .rlca | .rrca | .rla | .rra | .rot _ _ | .rld
  | .rrd | .bit _ _ | .set _ _ | .res _ _ | .ldi | .ldd | .ldir | .lddr | .cpi | .cpd | .cpir | .cpdr | .ini | .ind
  | .inir | .indr | .outi | .outd | .otir | .otdr | .ldRegReg _ _ | .ldRegImm _ _ | .ldRegHL _ | .ldRegIdx _ _ _
  | .ldHLReg _ | .ldIdxReg _ _ _ | .ldHLImm _ | .ldIdxImm _ _ _ | .ldAPair _ | .ldAMem _ | .ldPairA _ | .ldMemA _
  | .ldRegHalf _ _ _ | .ldAI | .ldAR | .ldIA | .ldRA | .ldHLMem _ | .stHLMem _ | .stRpMem _ _ | .stIdxMem _ _
  | .exDEHL | .exAF | .exx | .jp _ | .jpCc _ _ | .jr _ | .jrCc _ _ | .jpReg _ | .djnz _ | .inReg _ | .inA _
  | .outReg _ | .outA _ | .nop | .halt | .di | .ei | .im _ => []

/-- The flags an instruction leaves alone, as a mask over F: the `-` columns of the summary table 10_state.md R30. -/
def keptFlags (f : Form) : Byte :=
  match f with
  | .alu _ _ => 0x00
  | .incM _ => 0x01 | .decM _ => 0x01
  | .daa => 0x02
  | .cpl => 0xC5
  | .neg => 0x00
  | .ccf => 0xC4 | .scf => 0xC4
  | .add16 _ _ => 0xC4
  | .adc16 _ => 0x00 | .sbc16 _ => 0x00
  | .rlca => 0xC4 | .rrca => 0xC4 | .rla => 0xC4 | .rra => 0xC4
  | .rot _ _ => 0x00
  | .rld => 0x01 | .rrd => 0x01
  | .bit _ _ => 0x01
  | .ldi => 0xC1 | .ldd => 0xC1 | .ldir => 0xC1 | .lddr => 0xC1
  | .cpi => 0x01 | .cpd => 0x01 | .cpir => 0x01 | .cpdr => 0x01
  | .ini => 0x00 | .ind => 0x00 | .inir => 0x00 | .indr => 0x00
  | .outi => 0x00 | .outd => 0x00 | .otir => 0x00 | .otdr => 0x00
  | .ldAI => 0x01 | .ldAR => 0x01
  | .exAF => 0x00
  | .pop q => if q = .AF then 0x00 else 0xFF
  | .inReg _ => 0x01
  | .inc16 _ | .dec16 _ | .set _ _ | .res _ _ | .ldRegReg _ _ | .ldRegImm _ _ | .ldRegHL _ | .ldRegIdx _ _ _
  | .ldHLReg _ | .ldIdxReg _ _ _ | .ldHLImm _ | .ldIdxImm _ _ _ | .ldAPair _ | .ldAMem _ | .ldPairA _ | .ldMemA _
  | .ldRegHalf _ _ _ | .ldHalfReg _ _ _ | .ldHalfHalf _ _ _ | .ldHalfImm _ _ _ | .ldIA | .ldRA | .ldRrImm _ _
  | .ldHLMem _ | .ldRpMem _ _ | .ldIdxMem _ _ | .stHLMem _ | .stRpMem _ _ | .stIdxMem _ _ | .ldSP _ | .exDEHL | .exx
  | .exSP _ | .push _ | .jp _ | .jpCc _ _ | .jr _ | .jrCc _ _ | .jpReg _ | .djnz _ | .call _ | .callCc _ _ | .ret
  | .retCc _ | .reti | .retn | .rst _ | .inA _ | .outReg _ | .outA _ | .nop | .halt | .di | .ei | .im _ => 0xFF

/-- The addresses an instruction stores to, computed in the state it starts from (20_memory.md R72). -/
def storeAddrs (f : Form) (s : State) : List Word :=
  match f with
  | .incM m => placeAddr m.place s
  | .decM m => placeAddr m.place s
  | .rot _ m => placeAddr m.place s
  | .set _ m => placeAddr m.place s
  | .res _ m => placeAddr m.place s
  | .rld => [s.get16 .HL] | .rrd => [s.get16 .HL]
  | .ldi => [s.get16 .DE] | .ldd => [s.get16 .DE] | .ldir => [s.get16 .DE] | .lddr => [s.get16 .DE]
  | .ini => [s.get16 .HL] | .ind => [s.get16 .HL] | .inir => [s.get16 .HL] | .indr => [s.get16 .HL]
  | .ldHLReg _ => [s.get16 .HL]
  | .ldIdxReg x d _ => [s.addr (.idx x d)]
  | .ldHLImm _ => [s.get16 .HL]
  | .ldIdxImm x d _ => [s.addr (.idx x d)]
  | .ldPairA p => [s.addr p.ea]
  | .ldMemA nn => [nn]
  | .stHLMem nn => [nn, nn + 1]
  | .stRpMem _ nn => [nn, nn + 1]
  | .stIdxMem _ nn => [nn, nn + 1]
  | .exSP _ => [s.SP, s.SP + 1]
  | .push _ => [s.SP - 1, s.SP - 2]
  | .call _ => [s.SP - 1, s.SP - 2]
  | .callCc c _ => if condition c s.F then [s.SP - 1, s.SP - 2] else []
  | .rst _ => [s.SP - 1, s.SP - 2]
  | .alu _ _ | .daa | .cpl | .neg | .ccf | .scf | .add16 _ _ | .adc16 _ | .sbc16 _ | .inc16 _ | .dec16 _ | .rlca
  | .rrca | .rla | .rra | .bit _ _ | .cpi | .cpd | .cpir | .cpdr | .outi | .outd | .otir | .otdr | .ldRegReg _ _
  | .ldRegImm _ _ | .ldRegHL _ | .ldRegIdx _ _ _ | .ldAPair _ | .ldAMem _ | .ldRegHalf _ _ _ | .ldHalfReg _ _ _
  | .ldHalfHalf _ _ _ | .ldHalfImm _ _ _ | .ldAI | .ldAR | .ldIA | .ldRA | .ldRrImm _ _ | .ldHLMem _ | .ldRpMem _ _
  | .ldIdxMem _ _ | .ldSP _ | .exDEHL | .exAF | .exx | .pop _ | .jp _ | .jpCc _ _ | .jr _ | .jrCc _ _ | .jpReg _
  | .djnz _ | .ret | .retCc _ | .reti | .retn | .inReg _ | .inA _ | .outReg _ | .outA _ | .nop | .halt | .di | .ei
  | .im _ => []

/-- The instructions that write PC as a whole (10_state.md R31), and HALT, which sets it back to its own byte (R391). -/
def writesPC (f : Form) : Bool :=
  match f with
  | .jp _ => true | .jpCc _ _ => true | .jr _ => true | .jrCc _ _ => true | .jpReg _ => true | .djnz _ => true
  | .call _ => true | .callCc _ _ => true | .ret => true | .retCc _ => true | .reti => true | .retn => true | .rst _ => true
  | .ldir => true | .lddr => true | .cpir => true | .cpdr => true | .inir => true | .indr => true | .otir => true
  | .otdr => true
  | .halt => true
  | .alu _ _ | .incM _ | .decM _ | .daa | .cpl | .neg | .ccf | .scf | .add16 _ _ | .adc16 _ | .sbc16 _ | .inc16 _
  | .dec16 _ | .rlca | .rrca | .rla | .rra | .rot _ _ | .rld | .rrd | .bit _ _ | .set _ _ | .res _ _ | .ldi | .ldd
  | .cpi | .cpd | .ini | .ind | .outi | .outd | .ldRegReg _ _ | .ldRegImm _ _ | .ldRegHL _ | .ldRegIdx _ _ _
  | .ldHLReg _ | .ldIdxReg _ _ _ | .ldHLImm _ | .ldIdxImm _ _ _ | .ldAPair _ | .ldAMem _ | .ldPairA _ | .ldMemA _
  | .ldRegHalf _ _ _ | .ldHalfReg _ _ _ | .ldHalfHalf _ _ _ | .ldHalfImm _ _ _ | .ldAI | .ldAR | .ldIA | .ldRA
  | .ldRrImm _ _ | .ldHLMem _ | .ldRpMem _ _ | .ldIdxMem _ _ | .stHLMem _ | .stRpMem _ _ | .stIdxMem _ _ | .ldSP _
  | .exDEHL | .exAF | .exx | .exSP _ | .push _ | .pop _ | .inReg _ | .inA _ | .outReg _ | .outA _ | .nop | .di | .ei
  | .im _ => false

/-- The instructions that reach the I/O space (20_memory.md R65). -/
def reachesPorts (f : Form) : Bool :=
  match f with
  | .inReg _ => true | .inA _ => true | .outReg _ => true | .outA _ => true
  | .ini => true | .ind => true | .inir => true | .indr => true
  | .outi => true | .outd => true | .otir => true | .otdr => true
  | .alu _ _ | .incM _ | .decM _ | .daa | .cpl | .neg | .ccf | .scf | .add16 _ _ | .adc16 _ | .sbc16 _ | .inc16 _
  | .dec16 _ | .rlca | .rrca | .rla | .rra | .rot _ _ | .rld | .rrd | .bit _ _ | .set _ _ | .res _ _ | .ldi | .ldd
  | .ldir | .lddr | .cpi | .cpd | .cpir | .cpdr | .ldRegReg _ _ | .ldRegImm _ _ | .ldRegHL _ | .ldRegIdx _ _ _
  | .ldHLReg _ | .ldIdxReg _ _ _ | .ldHLImm _ | .ldIdxImm _ _ _ | .ldAPair _ | .ldAMem _ | .ldPairA _ | .ldMemA _
  | .ldRegHalf _ _ _ | .ldHalfReg _ _ _ | .ldHalfHalf _ _ _ | .ldHalfImm _ _ _ | .ldAI | .ldAR | .ldIA | .ldRA
  | .ldRrImm _ _ | .ldHLMem _ | .ldRpMem _ _ | .ldIdxMem _ _ | .stHLMem _ | .stRpMem _ _ | .stIdxMem _ _ | .ldSP _
  | .exDEHL | .exAF | .exx | .exSP _ | .push _ | .pop _ | .jp _ | .jpCc _ _ | .jr _ | .jrCc _ _ | .jpReg _ | .djnz _
  | .call _ | .callCc _ _ | .ret | .retCc _ | .reti | .retn | .rst _ | .nop | .halt | .di | .ei | .im _ => false

/-- A request to the I/O device. -/
def isPortAccess (x : Access) : Bool :=
  match x with
  | .ioRead _ _ => true
  | .ioWrite _ _ => true
  | .memRead _ _ => false
  | .memWrite _ _ => false
  | .dataBus _ => false

/-- S, Z, F5 and F3 mirror a result byte (10_state.md R29; R13 `szxy`). -/
def Mirrors (f : Flags) (r : Byte) : Prop :=
  (f.S = true ↔ r.toInt < 0) ∧ (f.Z = true ↔ r = 0) ∧ f.F5 = r.getLsbD 5 ∧ f.F3 = r.getLsbD 3

/-- An even number of set bits (00_scope.md R13). -/
def EvenParity (v : Byte) : Prop := ((List.range 8).filter (fun i => v.getLsbD i)).length % 2 = 0

/-- A number does not fit a signed byte. -/
def Overflows8 (n : Int) : Prop := n < -128 ∨ 127 < n

/-- A number does not fit a signed word. -/
def Overflows16 (n : Int) : Prop := n < -32768 ∨ 32767 < n

/-- Two decimal digits in a byte, for a number below 100. -/
def bcd (n : Nat) : Byte := byte (n / 10 * 16 + n % 10)

/-- The state with other flags. -/
def withFlags (s : State) (f : Flags) : State := { s with F := f }

/-- No instruction begins with these two bytes. -/
def Undefined (b c : Byte) : Prop := ∀ rest : List Byte, ∃ why, decode (b :: c :: rest) = .error why

/-- PC goes back by two if a block instruction repeats (44_block.md R250). -/
def rewound (again : Prop) [Decidable again] (s : State) : Word := if again then s.PC - 2 else s.PC

end Sys2Proof.Claims

section

open Sys2Proof Sys2Proof.Machine Sys2Proof.Safety Sys2Proof.Claims

/-! ## Encoding -/

/-- Tier 3. Every well-formed instruction is decoded from its own bytes, whatever follows them (30_encoding.md R94 to R105,
spec/opcode_table.json): no bit of an encoding is dropped. -/
def Obligations.DecodeInvertsEncode : Prop :=
  ∀ (i : Instr) (rest : List Byte), i.wellFormed = true → decode (encode i ++ rest) = .ok (i, rest)

/-- Tier 3. What the decoder accepts is a well-formed instruction's own bytes: each sequence of bytes has one meaning, and the
admitted set is exactly the table's (R97). -/
def Obligations.EncodeInvertsDecode : Prop :=
  ∀ (bs rest : List Byte) (i : Instr), decode bs = .ok (i, rest) → i.wellFormed = true ∧ bs = encode i ++ rest

/-- Tier 1. Words written out from the spec's encodings, one or more of each family, and the instruction each stands for. -/
def Obligations.WrittenWordsDecode : Prop :=
  decode [0x00] = .ok (.nop, []) ∧
  decode [0x01, 0x34, 0x12] = .ok (.ld_BC_nn 0x1234, []) ∧
  decode [0x10, 0xFE] = .ok (.djnz_e (-2), []) ∧
  decode [0x76] = .ok (.halt, []) ∧
  decode [0x8F] = .ok (.adc_A_A, []) ∧
  decode [0xFE, 0x28] = .ok (.cp_n 0x28, []) ∧
  decode [0xCB, 0x2D] = .ok (.sra_L, []) ∧
  decode [0xCB, 0x5E] = .ok (.bit_3_mHL, []) ∧
  decode [0xED, 0x7B, 0x00, 0x60] = .ok (.ld_SP_mnn 0x6000, []) ∧
  decode [0xED, 0xB0] = .ok (.ldir, []) ∧
  decode [0xED, 0x79] = .ok (.out_mC_A, []) ∧
  decode [0xDD, 0x36, 0xFE, 0x5A] = .ok (.ld_mIXd_n (-2) 0x5A, []) ∧
  decode [0xFD, 0x66, 0x80] = .ok (.ld_H_mIYd (-128), []) ∧
  decode [0xDD, 0x66, 0x7F] = .ok (.ld_H_mIXd 127, []) ∧
  decode [0xDD, 0xE5] = .ok (.push_IX, []) ∧
  decode [0xFD, 0x29] = .ok (.add_IY_IY, []) ∧
  decode [0xDD, 0xCB, 0xFF, 0x6E] = .ok (.bit_5_mIXd (-1), []) ∧
  decode [0xFD, 0xCB, 0x00, 0xBE] = .ok (.res_7_mIYd 0, [])

/-- Tier 2. The encodings by their fields, for every operand: no instruction is shorter than 1 byte or longer than 4 (30_encoding.md
R90); the ALU instructions (40_alu8.md R140: `10yyyzzz`, `11yyy110 n`, `P 10yyy110 d`, `P 10yyy100`, `P 10yyy101`), INC and DEC
(R159, R160), the CB layers (42_rotate_shift.md R205, 43_bit.md R230: `CB xxyyyzzz`, `P CB d xxyyy110`), loads
(45_load_exchange.md), 16-bit arithmetic (41_alu16.md), control flow (46_control_flow.md) and ports (47_io.md). -/
def Obligations.EncodingFields : Prop :=
  (∀ i : Instr, 1 ≤ (encode i).length ∧ (encode i).length ≤ 4) ∧
  (∀ (op : AluOp) (r : Reg8) (x : Idx) (h : Side) (d : Int) (n : Byte),
    encode (Form.alu op (.reg r)).instr = [byte (0x80 + 8 * aluCode op + regCode r)] ∧
    encode (Form.alu op .memHL).instr = [byte (0x86 + 8 * aluCode op)] ∧
    encode (Form.alu op (.imm n)).instr = [byte (0xC6 + 8 * aluCode op), n] ∧
    encode (Form.alu op (.memIdx x d)).instr = [leadByte x, byte (0x86 + 8 * aluCode op), displacementByte d] ∧
    encode (Form.alu op (.half x h)).instr = [leadByte x, byte (0x80 + 8 * aluCode op + sideCode h)] ∧
    encode (Form.incM (.reg r)).instr = [byte (0x04 + 8 * regCode r)] ∧
    encode (Form.decM (.reg r)).instr = [byte (0x05 + 8 * regCode r)] ∧
    encode (Form.incM .memHL).instr = [0x34] ∧
    encode (Form.decM .memHL).instr = [0x35] ∧
    encode (Form.incM (.memIdx x d)).instr = [leadByte x, 0x34, displacementByte d] ∧
    encode (Form.decM (.memIdx x d)).instr = [leadByte x, 0x35, displacementByte d] ∧
    encode (Form.incM (.half x h)).instr = [leadByte x, byte (0x04 + 8 * sideCode h)] ∧
    encode (Form.decM (.half x h)).instr = [leadByte x, byte (0x05 + 8 * sideCode h)]) ∧
  (∀ (op : RotOp) (b : Fin 8) (r : Reg8) (x : Idx) (d : Int) (f : CbPlace → Form) (k : Nat),
    (f = Form.rot op ∧ k = 8 * rotCode op) ∨ (f = Form.bit b ∧ k = 0x40 + 8 * b.val) ∨
      (f = Form.res b ∧ k = 0x80 + 8 * b.val) ∨ (f = Form.set b ∧ k = 0xC0 + 8 * b.val) →
    encode (f (.reg r)).instr = [0xCB, byte (k + regCode r)] ∧
    encode (f .memHL).instr = [0xCB, byte (k + 6)] ∧
    encode (f (.memIdx x d)).instr = [leadByte x, 0xCB, displacementByte d, byte (k + 6)]) ∧
  (∀ (r r' : Reg8) (x : Idx) (d : Int) (n : Byte) (nn : Word) (c : Cond) (y : Fin 8) (p : Rp),
    encode (Form.ldRegReg r r').instr = [byte (0x40 + 8 * regCode r + regCode r')] ∧
    encode (Form.ldRegImm r n).instr = [byte (0x06 + 8 * regCode r), n] ∧
    encode (Form.ldRegHL r).instr = [byte (0x46 + 8 * regCode r)] ∧
    encode (Form.ldRegIdx r x d).instr = [leadByte x, byte (0x46 + 8 * regCode r), displacementByte d] ∧
    encode (Form.ldHLReg r).instr = [byte (0x70 + regCode r)] ∧
    encode (Form.ldIdxReg x d r).instr = [leadByte x, byte (0x70 + regCode r), displacementByte d] ∧
    encode (Form.ldHLImm n).instr = [0x36, n] ∧
    encode (Form.ldIdxImm x d n).instr = [leadByte x, 0x36, displacementByte d, n] ∧
    encode (Form.ldAPair .BC).instr = [0x0A] ∧ encode (Form.ldAPair .DE).instr = [0x1A] ∧
    encode (Form.ldPairA .BC).instr = [0x02] ∧ encode (Form.ldPairA .DE).instr = [0x12] ∧
    encode (Form.ldAMem nn).instr = [0x3A, loByte nn, hiByte nn] ∧
    encode (Form.ldMemA nn).instr = [0x32, loByte nn, hiByte nn] ∧
    encode (Form.ldRpMem p nn).instr = [0xED, byte (0x4B + 16 * rpCode p), loByte nn, hiByte nn] ∧
    encode (Form.stRpMem p nn).instr = [0xED, byte (0x43 + 16 * rpCode p), loByte nn, hiByte nn] ∧
    encode (Form.adc16 p).instr = [0xED, byte (0x4A + 16 * rpCode p)] ∧
    encode (Form.sbc16 p).instr = [0xED, byte (0x42 + 16 * rpCode p)] ∧
    encode (Form.jpCc c nn).instr = [byte (0xC2 + 8 * condCode c), loByte nn, hiByte nn] ∧
    encode (Form.callCc c nn).instr = [byte (0xC4 + 8 * condCode c), loByte nn, hiByte nn] ∧
    encode (Form.retCc c).instr = [byte (0xC0 + 8 * condCode c)] ∧
    encode (Form.rst y).instr = [byte (0xC7 + 8 * y.val)] ∧
    encode (Form.inReg r).instr = [0xED, byte (0x40 + 8 * regCode r)] ∧
    encode (Form.outReg r).instr = [0xED, byte (0x41 + 8 * regCode r)])

/-! ## The step -/

/-- Tier 1. A step runs the decoded instruction (30_encoding.md R93): where the four bytes from PC on decode to `i`, the step
reads exactly `i`'s bytes, in address order, and is `exec i` with PC at the byte after them. -/
def Obligations.StepRunsDecodedInstruction : Prop :=
  ∀ (s : State) (i : Instr) (rest : List Byte), Running s → decode (fetchWindow s) = .ok (i, rest) →
    step s = exec i (AfterFetch s (encode i).length)

/-- Tier 1. While halted a step is an idle step: it issues no access and changes no register (48_cpu_control.md R391). -/
def Obligations.HaltedStepIsIdle : Prop :=
  ∀ s : State, s.schedule = [] → s.Halted = true → step s = .next (begun s)

/-- Tier 2. The undefined sequences are exactly those the encoding names (30_encoding.md R95 to R103), and each ends its step in
DecodeError with the bytes fetched (60_exceptions.md R410): after ED, a byte not in R98; after DD or FD, a byte without an index
form; in the indexed CB layer, a last byte whose low three bits are not 6. Every other sequence runs and reports no error. The core
is ready for another event: on `PLAIN_RAM` stepping again raises the same error. That State holds what is reported is log entry
14. -/
def Obligations.UndefinedBytesFault : Prop :=
  ∀ s : State, Running s →
    let b (k : Nat) : Byte := s.memAnswer k (s.PC + BitVec.ofNat 16 k)
    let runs : Prop := ∃ t, step s = .next t ∧ t.report = none
    (b 0 ≠ 0xED → b 0 ≠ 0xDD → b 0 ≠ 0xFD → runs) ∧
    (b 0 = 0xED → edAdmitted (b 1) = false → step s = .next (AfterError s [0xED, b 1])) ∧
    (b 0 = 0xED → edAdmitted (b 1) = true → runs) ∧
    (∀ x : Idx, b 0 = leadByte x →
      (b 1 ≠ 0xCB → indexAdmitted (b 1) = false → step s = .next (AfterError s [leadByte x, b 1])) ∧
      (b 1 ≠ 0xCB → indexAdmitted (b 1) = true → runs) ∧
      (b 1 = 0xCB → opZ (b 3) ≠ 6 → step s = .next (AfterError s [leadByte x, 0xCB, b 2, b 3])) ∧
      (b 1 = 0xCB → opZ (b 3) = 6 → runs)) ∧
    (s.memDevice = .plainRam → ∀ t f, step s = .next t → t.report = some f → step t = .next t)

/-- Tier 2. The core raises nothing but DecodeError, at PC and with bytes it fetched, and E3 on a host write of IM (60_exceptions.md
R410, R412, R413, R414): each step answers a next state, and where it reports an error the core's state is unchanged. What is
recorded and reported, and that the host's action is no longer scheduled, are the model's own fields (log entries 5, 6 and 14). -/
def Obligations.OnlyListedFaults : Prop :=
  ∀ s : State, ∃ t, step s = .next t ∧
    ∀ f, t.report = some f →
      (∃ bytes, f = .decodeError s.PC bytes ∧ bytes ≠ [] ∧ bytes <+: fetchWindow s ∧ s.Halted = false ∧
        ((s.schedule = [] ∧ t = AfterError s bytes) ∨
          ∃ rest, s.schedule = .step :: rest ∧ t = AfterError { s with schedule := rest } bytes)) ∨
      (∃ v rest, f = .invalidInterruptMode v ∧ 2 < v ∧ s.schedule = .write .IM v :: rest ∧
        t = { s with schedule := rest, report := some f })

/-! ## Invariants and whole-machine rules -/

/-- Tier 1. The reset state meets the invariant. Invariant and values are the model's form, not the spec's: that memory is a list in
canonical form and lists nothing at reset is log entries 1 and 2, that the bit of R394 stands in State and starts clear is log
entries 15 and 13. -/
def Obligations.ResetMeetsInvariant : Prop := Inv State.reset

/-- Tier 3. Every step keeps the invariant: memory stays in canonical form, within the 16-bit address space, and the bit that
only `EI_DELAY = true` gives the core stays clear (20_memory.md R64, 10_state.md R39). The invariant is the model's form (log entries
1 and 15). -/
def Obligations.StepKeepsInvariant : Prop :=
  ∀ s t : State, Inv s → step s = .next t → Inv t

/-- Tier 3. Every instruction completes, and memory afterwards is memory before with the writes it issued delivered in order to the
memory device, whichever it is; it issues at most four requests (20_memory.md R63, R69, R71, R72; 60_exceptions.md R414). The
record of the requests is log entry 5, the choice of devices log entry 1. -/
def Obligations.MemoryChangesByIssuedWritesOnly : Prop :=
  ∀ (i : Instr) (s : State), ∃ (t : State) (xs : List Access),
    exec i s = .next t ∧ t.accesses = s.accesses ++ xs ∧ t.mem = deliver s.memDevice xs s.mem ∧
      t.memDevice = s.memDevice ∧ xs.length ≤ 4

/-- Tier 3. The same of every step of the machine, interrupt entry and reset included: the requests recorded are those of this
event, and they account for memory (20_memory.md R63, R69, R71). A host write of core state is no event (70_reset_and_hazards.md
R452): it issues none, so memory and the record stay as they were. No step changes the memory device. That State records the last
event's requests and schedules the host's actions is the model's form (log entries 5 and 6), as the devices are (log entry 1). -/
def Obligations.StepMemoryIsAccountedFor : Prop :=
  ∀ s t : State, step s = .next t →
    t.memDevice = s.memDevice ∧
    ((∀ field v rest, s.schedule ≠ .write field v :: rest) → t.mem = deliver s.memDevice t.accesses s.mem) ∧
    (∀ field v rest, s.schedule = .write field v :: rest → t.mem = s.mem ∧ t.accesses = s.accesses)

/-- Tier 2. Every byte of memory outside the addresses an instruction stores to is unchanged, and an instruction that stores
nothing changes none: the contents of the memory device, whichever it is. -/
def Obligations.MemoryFrame : Prop :=
  ∀ (f : Form) (s t : State), exec f.instr s = .next t → ∀ a : Word, a ∉ storeAddrs f s → t.stored a = s.stored a

/-- Tier 2. Every register outside an instruction's destinations is unchanged: the general registers, IX, IY and SP. -/
def Obligations.RegisterFrame : Prop :=
  ∀ (f : Form) (s t : State), exec f.instr s = .next t →
    (∀ r : Reg8, r ∉ dest8 f → t.get8 r = s.get8 r) ∧
    (.IX ∉ dest16 f → t.IX = s.IX) ∧ (.IY ∉ dest16 f → t.IY = s.IY) ∧ (.SP ∉ dest16 f → t.SP = s.SP)

/-- Tier 2. The flags an instruction leaves alone are those of the summary table's `-` columns (10_state.md R27, R30). -/
def Obligations.FlagFrame : Prop :=
  ∀ (f : Form) (s t : State), exec f.instr s = .next t → t.F.pack &&& keptFlags f = s.F.pack &&& keptFlags f

/-- Tier 2. The writers of the special registers, the interrupt state and the shadow set among the instructions (10_state.md R24,
R33 to R38): I by LD I,A, R by LD R,A, IFF1 by DI, EI, RETN and RETI, IFF2 by DI and EI, IM by IM 0, 1 and 2, Halted by HALT, A'
and F' by EX AF,AF', the rest of the shadow set by EXX. -/
def Obligations.SpecialRegisterFrame : Prop :=
  ∀ (i : Instr) (s t : State), exec i s = .next t →
    (i ≠ .ld_I_A → t.I = s.I) ∧
    (i ≠ .ld_R_A → t.R = s.R) ∧
    (i ≠ .di → i ≠ .ei → i ≠ .retn → i ≠ .reti → t.IFF1 = s.IFF1) ∧
    (i ≠ .di → i ≠ .ei → t.IFF2 = s.IFF2) ∧
    (i ≠ .im_0 → i ≠ .im_1 → i ≠ .im_2 → t.IM = s.IM) ∧
    (i ≠ .halt → t.Halted = s.Halted) ∧
    (i ≠ .ex_AF_AF → t.A' = s.A' ∧ t.F' = s.F') ∧
    (i ≠ .exx → t.B' = s.B' ∧ t.C' = s.C' ∧ t.D' = s.D' ∧ t.E' = s.E' ∧ t.H' = s.H' ∧ t.L' = s.L')

/-- Tier 2. PC stays PCn unless the instruction is a jump, call, return or restart, a repeating block instruction, or HALT
(10_state.md R31). -/
def Obligations.ProgramCounterFrame : Prop :=
  ∀ (f : Form) (s t : State), exec f.instr s = .next t → writesPC f = false → t.PC = s.PC

/-- Tier 2. Only the I/O instructions reach the I/O space, each with one request (20_memory.md R65, R69); no instruction asks for
the data bus byte (R62). That none changes what the host has scheduled, and none reports an error (60_exceptions.md R414), are
clauses over the model's own fields: the schedule, the record of requests and the report are log entries 6, 5 and 14. -/
def Obligations.PortFrame : Prop :=
  ∀ (f : Form) (s t : State), exec f.instr s = .next t →
    t.schedule = s.schedule ∧ t.report = s.report ∧
    ∃ xs, t.accesses = s.accesses ++ xs ∧
      (xs.filter isPortAccess).length = (if reachesPorts f then 1 else 0) ∧ (∀ v, .dataBus v ∉ xs)

/-! ## State, memory and the stack -/

/-- Tier 1. R50: every field of the core state is zero after reset, and a reset leaves memory unchanged. -/
def Obligations.ResetClearsEveryField : Prop :=
  (∀ r : Reg8, State.reset.get8 r = 0) ∧ State.reset.F.pack = 0 ∧
  State.reset.A' = 0 ∧ State.reset.F' = 0 ∧ State.reset.B' = 0 ∧ State.reset.C' = 0 ∧
  State.reset.D' = 0 ∧ State.reset.E' = 0 ∧ State.reset.H' = 0 ∧ State.reset.L' = 0 ∧
  State.reset.IX = 0 ∧ State.reset.IY = 0 ∧ State.reset.SP = 0 ∧ State.reset.PC = 0 ∧
  State.reset.I = 0 ∧ State.reset.R = 0 ∧ State.reset.IFF1 = false ∧ State.reset.IFF2 = false ∧
  State.reset.IM = .im0 ∧ State.reset.Halted = false ∧ (∀ s : State, (resetEvent s).mem = s.mem)

/-- Tier 1. The reset event (70_reset_and_hazards.md R450): every core field at its reset value, no access, the memory device and its
contents as they were. What becomes of the model's own fields is log entry 13: the scripted answers, the draws and the rest of the
schedule stay, the record and the bit of R394 are cleared, and no error is reported. That the event is scheduled is log entry 6. -/
def Obligations.ResetEventKeepsMemory : Prop :=
  ∀ (s : State) (rest : List HostAction), s.schedule = .reset :: rest →
    step s = .next { State.reset with
      memDevice := s.memDevice, mem := s.mem, memAnswers := s.memAnswers, portAnswers := s.portAnswers, draws := s.draws,
      schedule := rest }

/-- Tier 2. R26: the codec is lossless both ways, and every flag sits at its bit. -/
def Obligations.FlagCodecRoundTrips : Prop :=
  (∀ b : Byte, (Flags.unpack b).pack = b) ∧ (∀ f : Flags, Flags.unpack f.pack = f) ∧
  (∀ f : Flags, f.pack.getLsbD 7 = f.S ∧ f.pack.getLsbD 6 = f.Z ∧ f.pack.getLsbD 5 = f.F5 ∧ f.pack.getLsbD 4 = f.H ∧
    f.pack.getLsbD 3 = f.F3 ∧ f.pack.getLsbD 2 = f.PV ∧ f.pack.getLsbD 1 = f.N ∧ f.pack.getLsbD 0 = f.C)

/-- Tier 2. The memory device (20_memory.md R60, R63, R71, R77). Of every device: a read is one request, answered by the device, and
a word is two, low byte first, mod 2^16 (R66, R72, R78); a write is one request, and changes nothing but memory and the record.
`PLAIN_RAM` answers its contents, and a write is seen by a read of its address and of no other. A device may ignore writes: one
with protected regions does so there. An external device keeps nothing in the model, and its k-th answer from now on is the k-th
scripted one, whatever was written. The devices are log entry 1, the record log entry 5. -/
def Obligations.MemoryReadsWhatWasWritten : Prop :=
  ∀ (s : State) (a b : Word) (v : Byte) (w : Word),
    s.memRead a = (s.peek a, afterReads s [a]) ∧ s.memReadWord a = (wordAt s a, afterReads s [a, a + 1]) ∧
    s.memWrite a v = { s with mem := (s.memWrite a v).mem, accesses := s.accesses ++ [.memWrite a v] } ∧
    s.memWriteWord a w = (s.memWrite a (loByte w)).memWrite (a + 1) (hiByte w) ∧
    (s.memDevice = .plainRam →
      (∀ k, s.memAnswer k b = s.stored b) ∧
      (s.memWrite a v).peek b = (if b = a then v else s.peek b) ∧
      wordAt (s.memWriteWord a w) a = w ∧
      (b ≠ a → b ≠ a + 1 → (s.memWriteWord a w).peek b = s.peek b)) ∧
    (∀ regions, s.memDevice = .protectedRam regions →
      (∀ k, s.memAnswer k b = s.stored b) ∧
      (s.memWrite a v).peek b = (if b = a ∧ (∀ r ∈ regions, a < r.1 ∨ r.2 < a) then v else s.peek b)) ∧
    (s.memDevice = .external →
      (s.memWrite a v).mem = s.mem ∧ (s.memWrite a v).peek b = s.peek b ∧
      (∀ k x, s.memAnswers[k]? = some x → s.memAnswer k b = x))

/-- Tier 2. A pair is its halves, high byte first, and a 16-bit write is read back, AF included (10_state.md R23, R26); the
registers of no other pair change. -/
def Obligations.PairsComposeTheirHalves : Prop :=
  ∀ (s : State) (r q : Reg16) (v : Word),
    (s.set16 r v).get16 r = v ∧ (q ≠ r → (s.set16 r v).get16 q = s.get16 q) ∧
    (s.get16 .BC = s.B ++ s.C ∧ s.get16 .DE = s.D ++ s.E ∧ s.get16 .HL = s.H ++ s.L ∧ s.get16 .AF = s.A ++ s.F.pack)

/-- Tier 1. The operands (40_alu8.md R140, 45_load_exchange.md R280): what each form of a source reads, and that a memory operand
is read with one request and nothing else happens; the effective address of (IX+d) and (IY+d) is the index register plus the
signed displacement, mod 2^16. -/
def Obligations.SourceOperandsAndAddresses : Prop :=
  ∀ s : State,
    (∀ r, s.readSrc (AluSrc.reg r).src = (s.get8 r, s)) ∧
    (∀ n, s.readSrc (AluSrc.imm n).src = (n, s)) ∧
    s.readSrc (AluSrc.half .IX .H).src = (hiByte s.IX, s) ∧ s.readSrc (AluSrc.half .IX .L).src = (loByte s.IX, s) ∧
    s.readSrc (AluSrc.half .IY .H).src = (hiByte s.IY, s) ∧ s.readSrc (AluSrc.half .IY .L).src = (loByte s.IY, s) ∧
    s.readSrc AluSrc.memHL.src = (s.peek (s.get16 .HL), afterReads s [s.get16 .HL]) ∧
    (∀ x d, s.readSrc (AluSrc.memIdx x d).src = (s.peek (s.addr (.idx x d)), afterReads s [s.addr (.idx x d)])) ∧
    (∀ d : Int, ((s.addr (.idx .IX d)).toNat : Int) = ((s.IX.toNat : Int) + d) % 65536 ∧
      ((s.addr (.idx .IY d)).toNat : Int) = ((s.IY.toNat : Int) + d) % 65536)

/-! ## 8-bit arithmetic and logic -/

/-- Tier 2. ADD A,s and ADC A,s (40_alu8.md R141, R151, R152), for every source: A is the sum mod 2^8; C is the carry out of bit
7, H the carry out of bit 3, PV signed overflow, N 0. Nothing else changes but the record of a memory operand's read. -/
def Obligations.AddAndAdcResult : Prop :=
  ∀ (op : AluOp) (src : AluSrc) (s : State), op = .ADD ∨ op = .ADC →
    let v := (s.readSrc src.src).1
    let c := if op = .ADC then bitNat s.F.C else 0
    let r := s.A + v + byte c
    ∃ f : Flags,
      exec (Form.alu op src).instr s = .next { (s.readSrc src.src).2 with A := r, F := f } ∧
      Mirrors f r ∧
      (f.H = true ↔ 15 < s.A.toNat % 16 + v.toNat % 16 + c) ∧
      (f.PV = true ↔ Overflows8 (s.A.toInt + v.toInt + c)) ∧
      f.N = false ∧
      (f.C = true ↔ 255 < s.A.toNat + v.toNat + c)

/-- Tier 2. SUB s, SBC A,s and CP s (R142, R153, R154, R158), for every source: their bytes; the difference mod 2^8; C is the
borrow, H the borrow from bit 4, PV signed overflow, N 1. CP keeps A and takes F5 and F3 from the operand. -/
def Obligations.SubSbcAndCpResult : Prop :=
  ∀ (op : AluOp) (src : AluSrc) (s : State), op = .SUB ∨ op = .SBC ∨ op = .CP →
    let v := (s.readSrc src.src).1
    let c := if op = .SBC then bitNat s.F.C else 0
    let r := s.A - v - byte c
    encode (Form.alu op src).instr = aluBytes op src ∧ ∃ f : Flags,
      exec (Form.alu op src).instr s =
        .next { (s.readSrc src.src).2 with A := if op = .CP then s.A else r, F := f } ∧
      (f.S = true ↔ r.toInt < 0) ∧ (f.Z = true ↔ r = 0) ∧
      f.F5 = (if op = .CP then v.getLsbD 5 else r.getLsbD 5) ∧
      f.F3 = (if op = .CP then v.getLsbD 3 else r.getLsbD 3) ∧
      (f.H = true ↔ s.A.toNat % 16 < v.toNat % 16 + c) ∧
      (f.PV = true ↔ Overflows8 (s.A.toInt - v.toInt - c)) ∧
      f.N = true ∧
      (f.C = true ↔ s.A.toNat < v.toNat + c)

/-- Tier 2. AND s, XOR s and OR s (R143, R155 to R157), for every source: H is 1 for AND and 0 for the others, PV even parity, N
and C 0. -/
def Obligations.LogicResult : Prop :=
  ∀ (op : AluOp) (src : AluSrc) (s : State), op = .AND ∨ op = .XOR ∨ op = .OR →
    let v := (s.readSrc src.src).1
    ∃ (r : Byte) (f : Flags),
      exec (Form.alu op src).instr s = .next { (s.readSrc src.src).2 with A := r, F := f } ∧
      (∀ j, r.getLsbD j =
        (if op = .AND then s.A.getLsbD j && v.getLsbD j
         else if op = .XOR then s.A.getLsbD j ^^ v.getLsbD j else s.A.getLsbD j || v.getLsbD j)) ∧
      Mirrors f r ∧ (f.H = true ↔ op = .AND) ∧ (f.PV = true ↔ EvenParity r) ∧ f.N = false ∧ f.C = false

/-- Tier 2. INC m and DEC m (R144, R145, R159, R160), for every place: C is not touched; PV is true only from 0x7F to 0x80 and
from 0x80 to 0x7F; a memory operand is read once and written once at the same address. -/
def Obligations.IncAndDecResult : Prop :=
  ∀ (m : IncPlace) (s : State),
    let v := (s.readPlace m.place).1
    (∃ f : Flags,
      exec (Form.incM m).instr s = .next ((withFlags (s.readPlace m.place).2 f).writePlace m.place (v + 1)) ∧
      Mirrors f (v + 1) ∧ (f.H = true ↔ v.toNat % 16 = 15) ∧ (f.PV = true ↔ v = 0x7F) ∧ f.N = false ∧ f.C = s.F.C) ∧
    (∃ f : Flags,
      exec (Form.decM m).instr s = .next ((withFlags (s.readPlace m.place).2 f).writePlace m.place (v - 1)) ∧
      Mirrors f (v - 1) ∧ (f.H = true ↔ v.toNat % 16 = 0) ∧ (f.PV = true ↔ v = 0x80) ∧ f.N = true ∧ f.C = s.F.C)

/-- Tier 2. DAA (R161) does what it is for: after ADD A,n of two numbers in decimal digits it leaves the digits of the sum, with
the carry in C; after SUB n, the digits of the difference mod 100, with the borrow in C. -/
def Obligations.DecimalAdjustGivesDecimalDigits : Prop :=
  ∀ (x y : Nat) (s : State), x < 100 → y < 100 → s.A = bcd x →
    (∃ t u, exec (.add_A_n (bcd y)) s = .next t ∧ exec .daa t = .next u ∧
      u.A = bcd ((x + y) % 100) ∧ (u.F.C = true ↔ 100 ≤ x + y) ∧ u.F.N = false) ∧
    (∃ t u, exec (.sub_n (bcd y)) s = .next t ∧ exec .daa t = .next u ∧
      u.A = bcd ((x + 100 - y) % 100) ∧ (u.F.C = true ↔ x < y) ∧ u.F.N = true)

/-- Tier 2. CPL and NEG (R162, R163), and the carry instructions SCF and CCF (R164, R165), whose F5 and F3 may be any value. -/
def Obligations.AccumulatorAndCarryResult : Prop :=
  ∀ s : State,
    encode .cpl = [0x2F] ∧ encode .neg = [0xED, 0x44] ∧ encode .scf = [0x37] ∧ encode .ccf = [0x3F] ∧
    exec .cpl s = .next { s with A := ~~~s.A, F := { s.F with
      F5 := (~~~s.A).getLsbD 5, H := true, F3 := (~~~s.A).getLsbD 3, N := true } } ∧
    (∃ f : Flags, exec .neg s = .next { s with A := -s.A, F := f } ∧ Mirrors f (-s.A) ∧
      (f.H = true ↔ s.A.toNat % 16 ≠ 0) ∧ (f.PV = true ↔ s.A = 0x80) ∧ f.N = true ∧ (f.C = true ↔ s.A ≠ 0)) ∧
    (∃ f5 f3 : Bool, exec .scf s = .next { s with draws := s.draws + 1, F := { s.F with
      F5 := f5, H := false, F3 := f3, N := false, C := true } }) ∧
    (∃ f5 f3 : Bool, exec .ccf s = .next { s with draws := s.draws + 1, F := { s.F with
      F5 := f5, H := s.F.C, F3 := f3, N := false, C := !s.F.C } })

/-- Tier 2. DAA (R161, byte 0x27) on every A and every combination of flags: A changes by 0, 6, 0x60 or 0x66 as the rule says, N
stays, C is never cleared, and nothing but A and F changes. -/
def Obligations.DecimalAdjustRule : Prop :=
  ∀ s : State,
    let low : Prop := s.F.H = true ∨ 9 < s.A.toNat % 16
    let high : Prop := s.F.C = true ∨ 0x99 < s.A.toNat
    encode .daa = [0x27] ∧ ∃ (k : Byte) (f : Flags),
      ((low ∧ high ∧ k = 0x66) ∨ (low ∧ ¬ high ∧ k = 0x06) ∨ (¬ low ∧ high ∧ k = 0x60) ∨ (¬ low ∧ ¬ high ∧ k = 0)) ∧
      exec .daa s = .next { s with A := if s.F.N then s.A - k else s.A + k, F := f } ∧
      Mirrors f (if s.F.N then s.A - k else s.A + k) ∧
      (f.PV = true ↔ EvenParity (if s.F.N then s.A - k else s.A + k)) ∧
      (f.H = true ↔ if s.F.N then s.F.H = true ∧ s.A.toNat % 16 < 6 else 9 < s.A.toNat % 16) ∧
      f.N = s.F.N ∧ (f.C = true ↔ high)

/-! ## 16-bit arithmetic -/

/-- Tier 2. ADD HL,rr, ADD IX,rr and ADD IY,rr (41_alu16.md R181), for every destination and source: the sum mod 2^16, H the
carry out of bit 11, C out of bit 15, F5 and F3 from the high byte; S, Z and PV stay. The opcode is 00pp1001 after the lead byte. -/
def Obligations.AddWordResult : Prop :=
  ∀ (dst : Xx) (src : Rp) (s : State),
    let a := s.get16 dst.reg
    let b := s.get16 (src.addSource dst)
    encode (Form.add16 dst src).instr = leadOf dst ++ [byte (0x09 + 16 * rpCode src)] ∧ ∃ f : Flags,
      exec (Form.add16 dst src).instr s = .next ((withFlags s f).set16 dst.reg (a + b)) ∧
      f.S = s.F.S ∧ f.Z = s.F.Z ∧ f.PV = s.F.PV ∧ f.F5 = (a + b).getLsbD 13 ∧ f.F3 = (a + b).getLsbD 11 ∧
      (f.H = true ↔ 4095 < a.toNat % 4096 + b.toNat % 4096) ∧ f.N = false ∧ (f.C = true ↔ 65535 < a.toNat + b.toNat)

/-- Tier 2. ADC HL,rr and SBC HL,rr (R182, R183), for every source: the result mod 2^16, S and Z over all 16 bits, H at bit 12,
PV signed overflow, C the carry or borrow. The opcodes are ED 01pp1010 and ED 01pp0010. -/
def Obligations.AdcAndSbcWordResult : Prop :=
  ∀ (src : Rp) (s : State),
    let a := s.get16 .HL
    let b := s.get16 src.reg
    let c := bitNat s.F.C
    encode (Form.adc16 src).instr = [0xED, byte (0x4A + 16 * rpCode src)] ∧
    encode (Form.sbc16 src).instr = [0xED, byte (0x42 + 16 * rpCode src)] ∧
    (∃ f : Flags,
      exec (Form.adc16 src).instr s = .next ((withFlags s f).set16 .HL (a + b + BitVec.ofNat 16 c)) ∧
      (f.S = true ↔ (a + b + BitVec.ofNat 16 c).toInt < 0) ∧ (f.Z = true ↔ a + b + BitVec.ofNat 16 c = 0) ∧
      f.F5 = (a + b + BitVec.ofNat 16 c).getLsbD 13 ∧ f.F3 = (a + b + BitVec.ofNat 16 c).getLsbD 11 ∧
      (f.H = true ↔ 4095 < a.toNat % 4096 + b.toNat % 4096 + c) ∧
      (f.PV = true ↔ Overflows16 (a.toInt + b.toInt + c)) ∧ f.N = false ∧ (f.C = true ↔ 65535 < a.toNat + b.toNat + c)) ∧
    (∃ f : Flags,
      exec (Form.sbc16 src).instr s = .next ((withFlags s f).set16 .HL (a - b - BitVec.ofNat 16 c)) ∧
      (f.S = true ↔ (a - b - BitVec.ofNat 16 c).toInt < 0) ∧ (f.Z = true ↔ a - b - BitVec.ofNat 16 c = 0) ∧
      f.F5 = (a - b - BitVec.ofNat 16 c).getLsbD 13 ∧ f.F3 = (a - b - BitVec.ofNat 16 c).getLsbD 11 ∧
      (f.H = true ↔ a.toNat % 4096 < b.toNat % 4096 + c) ∧
      (f.PV = true ↔ Overflows16 (a.toInt - b.toInt - c)) ∧ f.N = true ∧ (f.C = true ↔ a.toNat < b.toNat + c))

/-- Tier 1. INC rr and DEC rr (R184, R185), for every operand: the opcodes 00pp0011 and 00pp1011 after the lead byte; the register
changes by one mod 2^16 and no flag is written. -/
def Obligations.IncAndDecWordResult : Prop :=
  ∀ (rr : Rr) (s : State),
    encode (Form.inc16 rr).instr = (rrCode rr).1 ++ [byte (0x03 + 16 * (rrCode rr).2)] ∧
    encode (Form.dec16 rr).instr = (rrCode rr).1 ++ [byte (0x0B + 16 * (rrCode rr).2)] ∧
    (∀ v, (s.set16 rr.reg v).F = s.F) ∧
    exec (Form.inc16 rr).instr s = .next (s.set16 rr.reg (s.get16 rr.reg + 1)) ∧
    exec (Form.dec16 rr).instr s = .next (s.set16 rr.reg (s.get16 rr.reg - 1))

/-! ## Rotates, shifts and bits -/

/-- Tier 2. The rotates and shifts (42_rotate_shift.md R205 to R213), bit by bit, for every operation and place: what moves where,
which bit goes to C, and the common flag rule; a memory operand is read once, then written once. -/
def Obligations.RotateAndShiftResult : Prop :=
  ∀ (op : RotOp) (m : CbPlace) (s : State),
    let v := (s.readPlace m.place).1
    let left : Prop := op = .RLC ∨ op = .RL ∨ op = .SLA ∨ op = .SLL
    ∃ (r : Byte) (f : Flags),
      exec (Form.rot op m).instr s = .next ((withFlags (s.readPlace m.place).2 f).writePlace m.place r) ∧
      (left → (∀ j, j < 7 → r.getLsbD (j + 1) = v.getLsbD j) ∧ f.C = v.getLsbD 7) ∧
      (¬ left → (∀ j, j < 7 → r.getLsbD j = v.getLsbD (j + 1)) ∧ f.C = v.getLsbD 0) ∧
      (op = .RLC → r.getLsbD 0 = v.getLsbD 7) ∧ (op = .RL → r.getLsbD 0 = s.F.C) ∧
      (op = .SLA → r.getLsbD 0 = false) ∧ (op = .SLL → r.getLsbD 0 = true) ∧
      (op = .RRC → r.getLsbD 7 = v.getLsbD 0) ∧ (op = .RR → r.getLsbD 7 = s.F.C) ∧
      (op = .SRA → r.getLsbD 7 = v.getLsbD 7) ∧ (op = .SRL → r.getLsbD 7 = false) ∧
      Mirrors f r ∧ f.H = false ∧ (f.PV = true ↔ EvenParity r) ∧ f.N = false

/-- Tier 2. The accumulator rotates (R200 to R204; bytes 07, 0F, 17 and 1F): S, Z and PV stay, H and N are 0, C is the bit
shifted out. -/
def Obligations.AccumulatorRotateResult : Prop :=
  ∀ s : State,
    let flags (r : Byte) (c : Bool) : Flags :=
      { s.F with F5 := r.getLsbD 5, H := false, F3 := r.getLsbD 3, N := false, C := c }
    let rla := (s.A <<< 1) ||| byte (bitNat s.F.C)
    let rra := (s.A >>> 1) ||| (byte (bitNat s.F.C) <<< 7)
    encode .rlca = [0x07] ∧ encode .rrca = [0x0F] ∧ encode .rla = [0x17] ∧ encode .rra = [0x1F] ∧
    exec .rlca s = .next { s with A := s.A.rotateLeft 1, F := flags (s.A.rotateLeft 1) s.A.msb } ∧
    exec .rrca s = .next { s with A := s.A.rotateRight 1, F := flags (s.A.rotateRight 1) (s.A.getLsbD 0) } ∧
    exec .rla s = .next { s with A := rla, F := flags rla s.A.msb } ∧
    exec .rra s = .next { s with A := rra, F := flags rra (s.A.getLsbD 0) }

/-- Tier 2. RLD and RRD (R215, R216): the three digits A[3:0], the byte at HL rotate; A[7:4] and C stay. -/
def Obligations.DigitRotateResult : Prop :=
  ∀ s : State,
    let p := s.get16 .HL
    let m := s.peek p
    let a := s.A.toNat
    encode .rld = [0xED, 0x6F] ∧ encode .rrd = [0xED, 0x67] ∧
    (∀ x : Idx, Undefined (leadByte x) 0xED) ∧
    (∃ f : Flags,
      exec .rld s = .next { (s.memRead p).2.memWrite p (byte (m.toNat % 16 * 16 + a % 16)) with
        A := byte (a / 16 * 16 + m.toNat / 16), F := f } ∧
      Mirrors f (byte (a / 16 * 16 + m.toNat / 16)) ∧ f.H = false ∧
      (f.PV = true ↔ EvenParity (byte (a / 16 * 16 + m.toNat / 16))) ∧ f.N = false ∧ f.C = s.F.C) ∧
    (∃ f : Flags,
      exec .rrd s = .next { (s.memRead p).2.memWrite p (byte (a % 16 * 16 + m.toNat / 16)) with
        A := byte (a / 16 * 16 + m.toNat % 16), F := f } ∧
      Mirrors f (byte (a / 16 * 16 + m.toNat % 16)) ∧ f.H = false ∧
      (f.PV = true ↔ EvenParity (byte (a / 16 * 16 + m.toNat % 16))) ∧ f.N = false ∧ f.C = s.F.C)

/-- Tier 2. BIT b,m (43_bit.md R231), for every bit and place: Z and PV are the complement of the bit, S is bit 7 set and tested,
C stays, nothing is written; F5 and F3 come from the value, or from the address's high byte, or are any value for (HL). -/
def Obligations.BitTestResult : Prop :=
  ∀ (b : Fin 8) (m : CbPlace) (s : State),
    let v := (s.readPlace m.place).1
    ∃ (f : Flags) (k : Nat),
      exec (Form.bit b m).instr s = .next { (s.readPlace m.place).2 with F := f, draws := k } ∧
      k = (s.readPlace m.place).2.draws + (if m = .memHL then 1 else 0) ∧
      f.Z = !v.getLsbD b ∧ f.PV = !v.getLsbD b ∧ (f.S = true ↔ b = 7 ∧ v.getLsbD 7 = true) ∧ f.H = true ∧ f.N = false ∧
      f.C = s.F.C ∧
      (∀ r, m = .reg r → f.F5 = v.getLsbD 5 ∧ f.F3 = v.getLsbD 3) ∧
      (∀ x d, m = .memIdx x d →
        f.F5 = (hiByte (s.addr (.idx x d))).getLsbD 5 ∧ f.F3 = (hiByte (s.addr (.idx x d))).getLsbD 3)

/-- Tier 2. SET b,m and RES b,m (R232, R233), for every bit and place: exactly bit b changes, no flag is written, and the memory
forms always write. -/
def Obligations.SetAndResetBitResult : Prop :=
  ∀ (b : Fin 8) (m : CbPlace) (s : State),
    let v := (s.readPlace m.place).1
    ∃ r q : Byte,
      exec (Form.set b m).instr s = .next ((s.readPlace m.place).2.writePlace m.place r) ∧
      exec (Form.res b m).instr s = .next ((s.readPlace m.place).2.writePlace m.place q) ∧
      (∀ j, j < 8 → r.getLsbD j = if j = b.val then true else v.getLsbD j) ∧
      (∀ j, j < 8 → q.getLsbD j = if j = b.val then false else v.getLsbD j)

/-! ## Block instructions -/

/-- Tier 2. LDI, LDD, LDIR and LDDR (44_block.md R250 to R254): one byte from (HL) to (DE), the pointers by ±1, BC less one, the
flags of R251, and PC back by two where the repeating form has not counted down to 0. -/
def Obligations.BlockTransferElement : Prop :=
  ∀ s : State,
    let v := s.peek (s.get16 .HL)
    let moved := (s.memRead (s.get16 .HL)).2.memWrite (s.get16 .DE) v
    let bc := s.get16 .BC - 1
    let f : Flags := { s.F with F5 := (v + s.A).getLsbD 1, H := false, F3 := (v + s.A).getLsbD 3, PV := bc != 0, N := false }
    let up := { ((moved.set16 .HL (s.get16 .HL + 1)).set16 .DE (s.get16 .DE + 1)).set16 .BC bc with F := f }
    let down := { ((moved.set16 .HL (s.get16 .HL - 1)).set16 .DE (s.get16 .DE - 1)).set16 .BC bc with F := f }
    encode .ldi = [0xED, 0xA0] ∧ encode .ldd = [0xED, 0xA8] ∧ encode .ldir = [0xED, 0xB0] ∧ encode .lddr = [0xED, 0xB8] ∧
    exec .ldi s = .next up ∧ exec .ldd s = .next down ∧
    exec .ldir s = .next { up with PC := rewound (bc ≠ 0) s } ∧
    exec .lddr s = .next { down with PC := rewound (bc ≠ 0) s }

/-- Tier 2. CPI, CPD, CPIR and CPDR (R256 to R259): A is compared with (HL), HL by ±1, BC less one; PV tells BC≠0, C stays; the
repeating forms repeat while BC≠0 and there is no match. -/
def Obligations.BlockCompareElement : Prop :=
  ∀ s : State,
    let v := s.peek (s.get16 .HL)
    let seen := (s.memRead (s.get16 .HL)).2
    let bc := s.get16 .BC - 1
    let again : Prop := bc ≠ 0 ∧ s.A ≠ v
    encode .cpi = [0xED, 0xA1] ∧ encode .cpd = [0xED, 0xA9] ∧ encode .cpir = [0xED, 0xB1] ∧ encode .cpdr = [0xED, 0xB9] ∧
    ∃ f : Flags,
      (f.S = true ↔ (s.A - v).toInt < 0) ∧ (f.Z = true ↔ s.A = v) ∧ (f.H = true ↔ s.A.toNat % 16 < v.toNat % 16) ∧
      f.PV = (bc != 0) ∧ f.N = true ∧ f.C = s.F.C ∧
      f.F5 = (s.A - v - byte (bitNat f.H)).getLsbD 1 ∧ f.F3 = (s.A - v - byte (bitNat f.H)).getLsbD 3 ∧
      exec .cpi s = .next { (seen.set16 .HL (s.get16 .HL + 1)).set16 .BC bc with F := f } ∧
      exec .cpd s = .next { (seen.set16 .HL (s.get16 .HL - 1)).set16 .BC bc with F := f } ∧
      (again → exec .cpir s = .next { (seen.set16 .HL (s.get16 .HL + 1)).set16 .BC bc with F := f, PC := s.PC - 2 }) ∧
      (again → exec .cpdr s = .next { (seen.set16 .HL (s.get16 .HL - 1)).set16 .BC bc with F := f, PC := s.PC - 2 }) ∧
      (¬ again → exec .cpir s = .next { (seen.set16 .HL (s.get16 .HL + 1)).set16 .BC bc with F := f }) ∧
      (¬ again → exec .cpdr s = .next { (seen.set16 .HL (s.get16 .HL - 1)).set16 .BC bc with F := f })

/-- Tier 2. INI, IND, INIR and INDR (R260 to R264), whatever the port answers: the port is BC before B is decremented, the answer
goes to (HL), B less one, HL by ±1, the flags of R260. -/
def Obligations.BlockInputElement : Prop :=
  ∀ s : State,
    let v := (s.ioRead (s.get16 .BC)).1
    let got := { (s.ioRead (s.get16 .BC)).2.memWrite (s.get16 .HL) v with B := s.B - 1 }
    let flags (k : Nat) (f : Flags) : Prop :=
      Mirrors f (s.B - 1) ∧ f.N = v.msb ∧ (f.H = true ↔ 255 < k) ∧ (f.C = true ↔ 255 < k) ∧
        (f.PV = true ↔ EvenParity (byte (k % 8) ^^^ (s.B - 1)))
    encode .ini = [0xED, 0xA2] ∧ encode .ind = [0xED, 0xAA] ∧ encode .inir = [0xED, 0xB2] ∧ encode .indr = [0xED, 0xBA] ∧
    (∃ f, flags (v.toNat + (s.C + 1).toNat) f ∧
      exec .ini s = .next { got.set16 .HL (s.get16 .HL + 1) with F := f } ∧
      exec .inir s = .next { got.set16 .HL (s.get16 .HL + 1) with F := f, PC := rewound (s.B - 1 ≠ 0) s }) ∧
    (∃ f, flags (v.toNat + (s.C - 1).toNat) f ∧
      exec .ind s = .next { got.set16 .HL (s.get16 .HL - 1) with F := f } ∧
      exec .indr s = .next { got.set16 .HL (s.get16 .HL - 1) with F := f, PC := rewound (s.B - 1 ≠ 0) s })

/-- Tier 2. OUTI, OUTD, OTIR and OTDR (R260, R265 to R268): the byte at HL goes to the port BC with B already decremented; `k` uses
L after the pointer's update. -/
def Obligations.BlockOutputElement : Prop :=
  ∀ s : State,
    let v := s.peek (s.get16 .HL)
    let sent := ({ (s.memRead (s.get16 .HL)).2 with B := s.B - 1 } : State).ioWrite (joinBytes (s.B - 1) s.C) v
    let flags (k : Nat) (f : Flags) : Prop :=
      Mirrors f (s.B - 1) ∧ f.N = v.msb ∧ (f.H = true ↔ 255 < k) ∧ (f.C = true ↔ 255 < k) ∧
        (f.PV = true ↔ EvenParity (byte (k % 8) ^^^ (s.B - 1)))
    encode .outi = [0xED, 0xA3] ∧ encode .outd = [0xED, 0xAB] ∧ encode .otir = [0xED, 0xB3] ∧ encode .otdr = [0xED, 0xBB] ∧
    (∃ f, flags (v.toNat + (s.L + 1).toNat) f ∧
      exec .outi s = .next { sent.set16 .HL (s.get16 .HL + 1) with F := f } ∧
      exec .otir s = .next { sent.set16 .HL (s.get16 .HL + 1) with F := f, PC := rewound (s.B - 1 ≠ 0) s }) ∧
    (∃ f, flags (v.toNat + (s.L - 1).toNat) f ∧
      exec .outd s = .next { sent.set16 .HL (s.get16 .HL - 1) with F := f } ∧
      exec .otdr s = .next { sent.set16 .HL (s.get16 .HL - 1) with F := f, PC := rewound (s.B - 1 ≠ 0) s })

/-- Tier 2. LDIR moves a whole block (R250, R253): from a running core with `ED B0` at PC and BC = n > 0, if the n destination
bytes avoid the n source bytes and the two opcode bytes, then n steps later the destination holds the source, every other byte
is unchanged, HL and DE are past the block, BC is 0, PV is 0 and PC is past the instruction. The memory device is `PLAIN_RAM` (R77;
log entry 1), no event of the host comes between (`Running`: nothing is scheduled, log entry 6), and no other agent writes memory
(log entry 7). -/
def Obligations.LdirMovesTheBlock : Prop :=
  ∀ (s : State) (n : Nat), Running s → s.memDevice = .plainRam → s.stored s.PC = 0xED → s.stored (s.PC + 1) = 0xB0 →
    0 < n → n < 65536 → s.get16 .BC = BitVec.ofNat 16 n →
    (∀ a ∈ addrsFrom (s.get16 .DE) n, a ∉ addrsFrom (s.get16 .HL) n ∧ a ≠ s.PC ∧ a ≠ s.PC + 1) →
    ∃ t, Host.Core.run core n s = .next t ∧
      (∀ k, k < n → t.stored (s.get16 .DE + BitVec.ofNat 16 k) = s.stored (s.get16 .HL + BitVec.ofNat 16 k)) ∧
      (∀ a, a ∉ addrsFrom (s.get16 .DE) n → t.stored a = s.stored a) ∧
      t.get16 .HL = s.get16 .HL + BitVec.ofNat 16 n ∧ t.get16 .DE = s.get16 .DE + BitVec.ofNat 16 n ∧
      t.get16 .BC = 0 ∧ t.F.PV = false ∧ t.PC = s.PC + 2

/-! ## Loads, exchanges and the stack -/

/-- Tier 1. The 8-bit loads and stores (45_load_exchange.md R281 to R292): a load reads its source and one register takes it; a
store writes one byte at the address; no flag is written. -/
def Obligations.ByteLoadAndStoreResult : Prop :=
  ∀ (r r' : Reg8) (x : Idx) (d : Int) (n : Byte) (p : BcDe) (nn : Word) (s : State),
    let read (a : Word) : State := afterReads s [a]
    exec (Form.ldRegReg r r').instr s = .next (s.set8 r (s.get8 r')) ∧
    exec (Form.ldRegImm r n).instr s = .next (s.set8 r n) ∧
    exec (Form.ldRegHL r).instr s = .next ((read (s.get16 .HL)).set8 r (s.peek (s.get16 .HL))) ∧
    exec (Form.ldRegIdx r x d).instr s = .next ((read (s.addr (.idx x d))).set8 r (s.peek (s.addr (.idx x d)))) ∧
    exec (Form.ldAPair p).instr s = .next { read (s.addr p.ea) with A := s.peek (s.addr p.ea) } ∧
    exec (Form.ldAMem nn).instr s = .next { read nn with A := s.peek nn } ∧
    exec (Form.ldHLReg r).instr s = .next (s.memWrite (s.get16 .HL) (s.get8 r)) ∧
    exec (Form.ldIdxReg x d r).instr s = .next (s.memWrite (s.addr (.idx x d)) (s.get8 r)) ∧
    exec (Form.ldHLImm n).instr s = .next (s.memWrite (s.get16 .HL) n) ∧
    exec (Form.ldIdxImm x d n).instr s = .next (s.memWrite (s.addr (.idx x d)) n) ∧
    exec (Form.ldPairA p).instr s = .next (s.memWrite (s.addr p.ea) s.A) ∧
    exec (Form.ldMemA nn).instr s = .next (s.memWrite nn s.A)

/-- Tier 2. The loads with an index-register half (R293, R294): a half is written by changing only its 8 bits. -/
def Obligations.IndexHalfLoadResult : Prop :=
  ∀ (r : Reg5) (x : Idx) (h h' : Side) (n : Byte) (s : State),
    let half (g : Side) : Byte := (s.get16 x.reg).extractLsb' (if g = .H then 8 else 0) 8
    let put (v : Byte) : State :=
      s.set16 x.reg (if h = .H then joinBytes v (half .L) else joinBytes (half .H) v)
    encode (Form.ldRegHalf r x h).instr = [leadByte x, byte (0x40 + 8 * regCode r.reg + sideCode h)] ∧
    encode (Form.ldHalfReg x h r).instr = [leadByte x, byte (0x40 + 8 * sideCode h + regCode r.reg)] ∧
    encode (Form.ldHalfHalf x h h').instr = [leadByte x, byte (0x40 + 8 * sideCode h + sideCode h')] ∧
    encode (Form.ldHalfImm x h n).instr = [leadByte x, byte (0x06 + 8 * sideCode h), n] ∧
    exec (Form.ldRegHalf r x h).instr s = .next (s.set8 r.reg (half h)) ∧
    exec (Form.ldHalfReg x h r).instr s = .next (put (s.get8 r.reg)) ∧
    exec (Form.ldHalfHalf x h h').instr s = .next (put (half h')) ∧
    exec (Form.ldHalfImm x h n).instr s = .next (put n)

/-- Tier 2. LD A,I and LD A,R (ED 57, ED 5F) report IFF2 in PV and keep C (R296, R297); LD I,A and LD R,A (ED 47, ED 4F) write no
flag (R298, R299). -/
def Obligations.SpecialRegisterLoadResult : Prop :=
  ∀ s : State,
    encode .ld_A_I = [0xED, 0x57] ∧ encode .ld_A_R = [0xED, 0x5F] ∧
    encode .ld_I_A = [0xED, 0x47] ∧ encode .ld_R_A = [0xED, 0x4F] ∧
    (∃ f : Flags, exec .ld_A_I s = .next { s with A := s.I, F := f } ∧ Mirrors f s.I ∧ f.H = false ∧ f.PV = s.IFF2 ∧
      f.N = false ∧ f.C = s.F.C) ∧
    (∃ f : Flags, exec .ld_A_R s = .next { s with A := s.R, F := f } ∧ Mirrors f s.R ∧ f.H = false ∧ f.PV = s.IFF2 ∧
      f.N = false ∧ f.C = s.F.C) ∧
    exec .ld_I_A s = .next { s with I := s.A } ∧ exec .ld_R_A s = .next { s with R := s.A }

/-- Tier 2. The 16-bit loads and stores (R300 to R307), for every register: the word at nn is little-endian, low byte first, mod
2^16. -/
def Obligations.WordLoadAndStoreResult : Prop :=
  ∀ (rr : Rr) (p : Rp) (x : Idx) (xx : Xx) (nn : Word) (s : State),
    let word := wordAt s nn
    let read : State := afterReads s [nn, nn + 1]
    let stored (v : Word) : State := (s.memWrite nn (loByte v)).memWrite (nn + 1) (hiByte v)
    encode (Form.ldRrImm rr nn).instr = (rrCode rr).1 ++ [byte (0x01 + 16 * (rrCode rr).2), loByte nn, hiByte nn] ∧
    encode (Form.ldHLMem nn).instr = [0x2A, loByte nn, hiByte nn] ∧ encode (Form.stHLMem nn).instr = [0x22, loByte nn, hiByte nn] ∧
    encode (Form.ldIdxMem x nn).instr = [leadByte x, 0x2A, loByte nn, hiByte nn] ∧
    encode (Form.stIdxMem x nn).instr = [leadByte x, 0x22, loByte nn, hiByte nn] ∧
    encode (Form.ldRpMem p nn).instr = [0xED, byte (0x4B + 16 * rpCode p), loByte nn, hiByte nn] ∧
    encode (Form.stRpMem p nn).instr = [0xED, byte (0x43 + 16 * rpCode p), loByte nn, hiByte nn] ∧
    encode (Form.ldSP xx).instr = leadOf xx ++ [0xF9] ∧
    exec (Form.ldRrImm rr nn).instr s = .next (s.set16 rr.reg nn) ∧
    exec (Form.ldHLMem nn).instr s = .next (read.set16 .HL word) ∧
    exec (Form.ldRpMem p nn).instr s = .next (read.set16 p.reg word) ∧
    exec (Form.ldIdxMem x nn).instr s = .next (read.set16 x.reg word) ∧
    exec (Form.stHLMem nn).instr s = .next (stored (s.get16 .HL)) ∧
    exec (Form.stRpMem p nn).instr s = .next (stored (s.get16 p.reg)) ∧
    exec (Form.stIdxMem x nn).instr s = .next (stored (s.get16 x.reg)) ∧
    exec (Form.ldSP xx).instr s = .next { s with SP := s.get16 xx.reg }

/-- Tier 2. The exchanges (R310, R312, R313, R314): what each swaps, and that the register exchanges done twice restore the state.
EX (SP),HL, EX (SP),IX and EX (SP),IY swap the register with the word at SP, keep SP, and make their four accesses in the order
of 20_memory.md R72; on `PLAIN_RAM` memory then holds the register's word. -/
def Obligations.ExchangeResult : Prop :=
  ∀ (xx : Xx) (s : State),
    encode .ex_DE_HL = [0xEB] ∧ encode .ex_AF_AF = [0x08] ∧ encode .exx = [0xD9] ∧
    encode (Form.exSP xx).instr = leadOf xx ++ [0xE3] ∧
    (∀ x : Idx, Undefined (leadByte x) 0xEB ∧ Undefined (leadByte x) 0xD9) ∧
    exec .ex_DE_HL s = .next ((s.set16 .DE (s.get16 .HL)).set16 .HL (s.get16 .DE)) ∧
    exec .ex_AF_AF s = .next { s with A := s.A', F := Flags.unpack s.F', A' := s.A, F' := s.F.pack } ∧
    exec .exx s = .next { s with
      B := s.B', C := s.C', D := s.D', E := s.E', H := s.H', L := s.L',
      B' := s.B, C' := s.C, D' := s.D, E' := s.E, H' := s.H, L' := s.L } ∧
    (∀ i, i = .ex_DE_HL ∨ i = .ex_AF_AF ∨ i = .exx → ∃ t, exec i s = .next t ∧ exec i t = .next s) ∧
    exec (Form.exSP xx).instr s = .next
      ((((afterReads s [s.SP, s.SP + 1]).memWrite (s.SP + 1) (hiByte (s.get16 xx.reg))).memWrite s.SP
        (loByte (s.get16 xx.reg))).set16 xx.reg (wordAt s s.SP)) ∧
    (s.memDevice = .plainRam → ∃ t, exec (Form.exSP xx).instr s = .next t ∧
      t.get16 xx.reg = joinBytes (s.stored (s.SP + 1)) (s.stored s.SP) ∧
      t.stored s.SP = loByte (s.get16 xx.reg) ∧ t.stored (s.SP + 1) = hiByte (s.get16 xx.reg) ∧ t.SP = s.SP)

/-- Tier 2. The stack (45_load_exchange.md R320 to R323), for every pair and wherever SP is: push writes the high byte to SP-1, then
the low byte to SP-2; pop reads low then high; on `PLAIN_RAM` (R77) POP after PUSH brings the pair back, all eight
flags of AF included, and SP with it. -/
def Obligations.PushAndPopResult : Prop :=
  ∀ (q q' : Qq) (s : State) (v : Word),
    encode (Form.push q).instr = (qqCode q).1 ++ [byte (0xC5 + 16 * (qqCode q).2)] ∧
    encode (Form.pop q).instr = (qqCode q).1 ++ [byte (0xC1 + 16 * (qqCode q).2)] ∧
    s.push16 v = { (s.memWrite (s.SP - 1) (hiByte v)).memWrite (s.SP - 2) (loByte v) with SP := s.SP - 2 } ∧
    s.pop16 = (wordAt s s.SP, { afterReads s [s.SP, s.SP + 1] with SP := s.SP + 2 }) ∧
    exec (Form.push q).instr s = .next (s.push16 (s.get16 q.reg)) ∧
    exec (Form.pop q).instr s = .next (s.pop16.2.set16 q.reg s.pop16.1) ∧
    (s.memDevice = .plainRam →
      (s.push16 v).stored (s.SP - 1) = hiByte v ∧ (s.push16 v).stored (s.SP - 2) = loByte v ∧
      ∃ t u, exec (Form.push q).instr s = .next t ∧ exec (Form.pop q').instr t = .next u ∧
        u.get16 q'.reg = s.get16 q.reg ∧ u.SP = s.SP)

/-! ## Control flow -/

/-- Tier 2. The jumps (46_control_flow.md R331 to R336): their bytes, and where PC goes, taken and not taken; only PC changes, and B
for DJNZ. -/
def Obligations.JumpResult : Prop :=
  ∀ (c : Cond) (jc : JrCond) (xx : Xx) (nn : Word) (e : Int) (s : State),
    encode (.jp_nn nn) = [0xC3, loByte nn, hiByte nn] ∧ encode (Form.jpReg xx).instr = leadOf xx ++ [0xE9] ∧
    encode (Form.jpCc c nn).instr = [byte (0xC2 + 8 * condCode c), loByte nn, hiByte nn] ∧
    encode (.jr_e e) = [0x18, displacementByte e] ∧ encode (.djnz_e e) = [0x10, displacementByte (e)] ∧
    encode (Form.jrCc jc e).instr = [byte (0x20 + 8 * condCode jc.cond), displacementByte e] ∧
    exec (.jp_nn nn) s = .next { s with PC := nn } ∧
    exec (Form.jpCc c nn).instr s = .next { s with PC := if condition c s.F then nn else s.PC } ∧
    exec (.jr_e e) s = .next { s with PC := BitVec.ofInt 16 ((s.PC.toNat : Int) + e) } ∧
    exec (Form.jrCc jc e).instr s =
      .next { s with PC := if condition jc.cond s.F then BitVec.ofInt 16 ((s.PC.toNat : Int) + e) else s.PC } ∧
    exec (Form.jpReg xx).instr s = .next { s with PC := s.get16 xx.reg } ∧
    exec (.djnz_e e) s = .next { s with
      B := s.B - 1, PC := if s.B = 1 then s.PC else BitVec.ofInt 16 ((s.PC.toNat : Int) + e) }

/-- Tier 1. R330: the flag each condition tests, and the codes of the eight conditions in JP cc and of the four in JR cc. -/
def Obligations.ConditionsTestTheirFlag : Prop :=
  ∀ f : Flags,
    (condition .NZ f = true ↔ f.Z = false) ∧ (condition .Z f = true ↔ f.Z = true) ∧
    (condition .NC f = true ↔ f.C = false) ∧ (condition .C f = true ↔ f.C = true) ∧
    (condition .PO f = true ↔ f.PV = false) ∧ (condition .PE f = true ↔ f.PV = true) ∧
    (condition .P f = true ↔ f.S = false) ∧ (condition .M f = true ↔ f.S = true) ∧
    (∀ (c : Cond) (nn : Word), (encode (Form.jpCc c nn).instr).head? = some (byte (0xC2 + 8 * condCode c))) ∧
    (∀ (c : JrCond) (e : Int), (encode (Form.jrCc c e).instr).head? = some (byte (8 * (condCode c.cond + 4))))

/-- Tier 2. CALL, CALL cc, RST and RET, RET cc, RETI, RETN (R337 to R343): a call pushes PCn and a return pops it; a call then a
return brings PC and SP back on `PLAIN_RAM` (R77); not taken, nothing changes. RETI sets IFF1 and keeps IFF2; RETN copies IFF2 to
IFF1. -/
def Obligations.CallAndReturnResult : Prop :=
  ∀ (c : Cond) (y : Fin 8) (nn : Word) (s : State),
    encode (.call_nn nn) = [0xCD, loByte nn, hiByte nn] ∧ encode .ret = [0xC9] ∧
    encode .reti = [0xED, 0x4D] ∧ encode .retn = [0xED, 0x45] ∧
    (∀ b ∈ ([0x55, 0x5D, 0x65, 0x6D, 0x75, 0x7D] : List Byte), Undefined 0xED b) ∧
    encode (Form.callCc c nn).instr = [byte (0xC4 + 8 * condCode c), loByte nn, hiByte nn] ∧
    encode (Form.retCc c).instr = [byte (0xC0 + 8 * condCode c)] ∧ encode (Form.rst y).instr = [byte (0xC7 + 8 * y.val)] ∧
    exec (.call_nn nn) s = .next { s.push16 s.PC with PC := nn } ∧
    exec (Form.callCc c nn).instr s = .next (if condition c s.F then { s.push16 s.PC with PC := nn } else s) ∧
    exec (Form.rst y).instr s = .next { s.push16 s.PC with PC := BitVec.ofNat 16 (8 * y.val) } ∧
    exec .ret s = .next { s.pop16.2 with PC := s.pop16.1 } ∧
    exec (Form.retCc c).instr s = .next (if condition c s.F then { s.pop16.2 with PC := s.pop16.1 } else s) ∧
    exec .reti s = .next { s.pop16.2 with PC := s.pop16.1, IFF1 := true } ∧
    exec .retn s = .next { s.pop16.2 with PC := s.pop16.1, IFF1 := s.IFF2 } ∧
    (∀ i, s.memDevice = .plainRam → i = .call_nn nn ∨ i = (Form.rst y).instr →
      ∃ t u, exec i s = .next t ∧ exec .ret t = .next u ∧ u.PC = s.PC ∧ u.SP = s.SP ∧ u.IFF1 = s.IFF1 ∧ u.IFF2 = s.IFF2)

/-! ## Ports and CPU control -/

/-- Tier 2. IN and OUT (47_io.md R370 to R374), whatever the port answers: the port numbers, the register written, the flags of IN
r,(C), and that IN A,(n) and OUT write none. A port read is one request and changes no register (20_memory.md R61, R63). That it
answers with the next scripted byte, drops it and counts the draw is the model's choice (log entry 3), the record log entry 5. -/
def Obligations.PortInstructionResult : Prop :=
  ∀ (r : Reg8) (n : Byte) (port : Word) (s : State),
    encode (Form.inReg r).instr = [0xED, byte (0x40 + 8 * regCode r)] ∧ encode (.in_A_mn n) = [0xDB, n] ∧
    encode (Form.outReg r).instr = [0xED, byte (0x41 + 8 * regCode r)] ∧ encode (.out_mn_A n) = [0xD3, n] ∧
    Undefined 0xED 0x70 ∧ Undefined 0xED 0x71 ∧
    (s.ioRead port).2 = { s with
      portAnswers := s.portAnswers.tail, draws := s.draws + 1,
      accesses := s.accesses ++ [.ioRead port (s.ioRead port).1] } ∧
    (∀ v rest, s.portAnswers = v :: rest → (s.ioRead port).1 = v) ∧
    (∃ f : Flags,
      let v := (s.ioRead (joinBytes s.B s.C)).1
      exec (Form.inReg r).instr s = .next ((withFlags (s.ioRead (joinBytes s.B s.C)).2 f).set8 r v) ∧
      Mirrors f v ∧ f.H = false ∧ (f.PV = true ↔ EvenParity v) ∧ f.N = false ∧ f.C = s.F.C) ∧
    exec (.in_A_mn n) s = .next { (s.ioRead (joinBytes s.A n)).2 with A := (s.ioRead (joinBytes s.A n)).1 } ∧
    exec (Form.outReg r).instr s =
      .next { s with accesses := s.accesses ++ [.ioWrite (joinBytes s.B s.C) (s.get8 r)] } ∧
    exec (.out_mn_A n) s = .next { s with accesses := s.accesses ++ [.ioWrite (joinBytes s.A n) s.A] }

/-- Tier 1. NOP, HALT, DI, EI and IM (48_cpu_control.md R390 to R393, R396): their bytes, the state each leaves, and that nothing
else changes. -/
def Obligations.CpuControlResult : Prop :=
  ∀ s : State,
    encode .nop = [0x00] ∧ encode .halt = [0x76] ∧ encode .di = [0xF3] ∧ encode .ei = [0xFB] ∧
    encode .im_0 = [0xED, 0x46] ∧ encode .im_1 = [0xED, 0x56] ∧ encode .im_2 = [0xED, 0x5E] ∧
    exec .nop s = .next s ∧
    exec .halt s = .next { s with Halted := true, PC := s.PC - 1 } ∧
    exec .di s = .next { s with IFF1 := false, IFF2 := false } ∧
    exec .ei s = .next { s with IFF1 := true, IFF2 := true } ∧
    exec .im_0 s = .next { s with IM := .im0 } ∧ exec .im_1 s = .next { s with IM := .im1 } ∧
    exec .im_2 s = .next { s with IM := .im2 }

/-! ## Interrupts -/

/-- Tier 2. The maskable request (60_exceptions.md R421 to R425). With IFF1 = 0 it is discarded and leaves nothing behind. With
IFF1 = 1 the core wakes, IFF1 is cleared and IFF2 kept, PC (past a HALT) is pushed, and PC takes 0x0038 in modes 0 and 1 and, in
mode 2, the little-endian word at `(I << 8) | bus` in memory after the push; the requests come in that order. -/
def Obligations.MaskableInterruptResult : Prop :=
  ∀ (s : State) (bus : Byte) (rest : List HostAction), s.schedule = .maskable bus :: rest →
    let back := if s.Halted then s.PC + 1 else s.PC
    let pushed : State :=
      { begun s with schedule := rest, Halted := false, IFF1 := false, PC := back }.push16 back
    let table := joinBytes s.I bus
    (s.IFF1 = false → step s = .next { begun s with schedule := rest }) ∧
    (s.IFF1 = true → s.IM = .im0 ∨ s.IM = .im1 → step s = .next { pushed with PC := 0x0038 }) ∧
    (s.IFF1 = true → s.IM = .im2 →
      pushed.accesses = [.memWrite (s.SP - 1) (hiByte back), .memWrite (s.SP - 2) (loByte back)] ∧
      step s = .next { afterReads { pushed with accesses := pushed.accesses ++ [.dataBus bus] } [table, table + 1] with
        PC := wordAt pushed table })

/-- Tier 2. NMI entry (R430, R431): whatever IFF1 is, the core wakes, PC (past a HALT) is pushed and PC takes 0x0066; IFF1, IFF2,
IM, I and the flags stay. -/
def Obligations.NonMaskableEntry : Prop :=
  ∀ (s : State) (rest : List HostAction), s.schedule = .nmi :: rest →
    let back := if s.Halted then s.PC + 1 else s.PC
    step s = .next { { begun s with schedule := rest, Halted := false, PC := back }.push16 back with PC := 0x0066 }

/-- Tier 2. On `PLAIN_RAM` (20_memory.md R77) a handler that returns resumes what was interrupted (R422, R442, R443): RETI right
after a maskable entry and RETN right after an NMI entry bring back SP and the PC that was to run next, past a HALT; RETI enables
maskable interrupts again, RETN gives IFF1 the value of IFF2. -/
def Obligations.InterruptReturnResumes : Prop :=
  ∀ (s : State) (bus : Byte) (rest : List HostAction),
    let back := if s.Halted then s.PC + 1 else s.PC
    s.memDevice = .plainRam →
    (s.schedule = .maskable bus :: rest → s.IFF1 = true → ∃ t u, step s = .next t ∧ exec .reti t = .next u ∧
      u.PC = back ∧ u.SP = s.SP ∧ u.IFF1 = true ∧ u.IFF2 = s.IFF2 ∧ u.Halted = false) ∧
    (s.schedule = .nmi :: rest → ∃ t u, step s = .next t ∧ exec .retn t = .next u ∧
      u.PC = back ∧ u.SP = s.SP ∧ u.IFF1 = s.IFF2 ∧ u.IFF2 = s.IFF2 ∧ u.Halted = false)

/-- Tier 1. A host write of IM outside 0, 1 and 2 is rejected and reports E3; the others set it (R412, 70_reset_and_hazards.md
R452). The report is log entry 14. -/
def Obligations.HostWriteOfModeIsChecked : Prop :=
  ∀ (s : State) (rest : List HostAction) (v : Nat), s.schedule = .write .IM v :: rest →
    (2 < v → step s = .next { s with schedule := rest, report := some (.invalidInterruptMode v) }) ∧
    (v = 0 → step s = .next { s with schedule := rest, report := none, IM := .im0 }) ∧
    (v = 1 → step s = .next { s with schedule := rest, report := none, IM := .im1 }) ∧
    (v = 2 → step s = .next { s with schedule := rest, report := none, IM := .im2 })

/-- Tier 2. A host write of any field of the core state (70_reset_and_hazards.md R452): the field holds the number masked to its
width, every other field of R20 and everything else stays. A number for IM is 0, 1 or 2 here (HostWriteOfModeIsChecked says what
another does). That the write is scheduled is log entry 6, that a boolean is masked to one bit log entry 8, that the record of the
last event stays log entry 5, that no error is reported log entry 14. -/
def Obligations.HostWriteMasksToWidth : Prop :=
  ∀ (s : State) (rest : List HostAction) (field : HostField) (v : Nat), s.schedule = .write field v :: rest →
    (field = .IM → v ≤ 2) →
    ∃ t, step s = .next t ∧
      fieldValue t field = v % 2 ^ fieldWidth field ∧
      (∀ g, g ≠ field → fieldValue t g = fieldValue s g) ∧
      t.eiPending = s.eiPending ∧ t.memDevice = s.memDevice ∧ t.mem = s.mem ∧ t.memAnswers = s.memAnswers ∧
      t.portAnswers = s.portAnswers ∧ t.draws = s.draws ∧ t.accesses = s.accesses ∧ t.report = none ∧
      t.schedule = rest

end
end

