-- ==== Sys2Proof/Laws/Bits.lean ====
section
/-! SUPPORT. The laws of bytes and words, and of the flag codec. -/

namespace Sys2Proof.Machine

@[simp] theorem hiByte_joinBytes (h l : Byte) : hiByte (joinBytes h l) = h := by
  have h1 := h.isLt
  have h2 := l.isLt
  apply BitVec.eq_of_toNat_eq
  simp only [hiByte, joinBytes, BitVec.toNat_ofNat]
  omega

@[simp] theorem loByte_joinBytes (h l : Byte) : loByte (joinBytes h l) = l := by
  have h1 := h.isLt
  have h2 := l.isLt
  apply BitVec.eq_of_toNat_eq
  simp only [loByte, joinBytes, BitVec.toNat_ofNat]
  omega

@[simp] theorem joinBytes_hi_lo (v : Word) : joinBytes (hiByte v) (loByte v) = v := by
  have h1 := v.isLt
  apply BitVec.eq_of_toNat_eq
  simp only [hiByte, loByte, joinBytes, BitVec.toNat_ofNat]
  omega

theorem joinBytes_inj {a b c d : Byte} (h : joinBytes a b = joinBytes c d) : a = c ∧ b = d :=
  ⟨by rw [← hiByte_joinBytes a b, h, hiByte_joinBytes], by rw [← loByte_joinBytes a b, h, loByte_joinBytes]⟩

/-- A signed operand survives being encoded (R104). -/
theorem signedByte_displacementByte {d : Int} (h1 : -128 ≤ d) (h2 : d ≤ 127) : signedByte (displacementByte d) = d := by
  have h : (displacementByte d).toNat = (d % 256).toNat := by simp [displacementByte, BitVec.toNat_ofInt]
  unfold signedByte
  rw [h]
  split <;> omega

/-- A byte survives being decoded as a signed operand (R104). -/
theorem displacementByte_signedByte (b : Byte) : displacementByte (signedByte b) = b := by
  apply BitVec.eq_of_toNat_eq
  have hb := b.isLt
  simp only [displacementByte, BitVec.toNat_ofInt, signedByte]
  split <;> omega

theorem signedByte_range (b : Byte) : -128 ≤ signedByte b ∧ signedByte b ≤ 127 := by
  have hb := b.isLt
  unfold signedByte
  split <;> omega

/-- Packing loses nothing (R26). -/
@[simp] theorem Flags.unpack_pack (f : Flags) : Flags.unpack f.pack = f := by
  obtain ⟨s, z, f5, h, f3, pv, n, c⟩ := f
  cases s <;> cases z <;> cases f5 <;> cases h <;> cases f3 <;> cases pv <;> cases n <;> cases c <;> rfl

/-- Unpacking loses nothing (R26): "for every byte b, pack(unpack(b)) == b". -/
@[simp] theorem Flags.pack_unpack (b : Byte) : (Flags.unpack b).pack = b := by
  revert b
  decide

/-- "parity(v8) = 1 iff the number of set bits of v8 is even" (R13). -/
theorem parity_eq_popcount (v : Byte) :
    parity v = decide (((List.range 8).filter (fun i => v.getLsbD i)).length % 2 = 0) := by
  revert v
  decide

end Sys2Proof.Machine
end

