-- ==== Sys2Proof/Laws/Forms.lean ====
section
/-! SUPPORT. Every instruction is a shape with operands, and `exec` on it is the shape's shared operation: a statement over all
800 constructors is proved over the shapes. -/

namespace Sys2Proof

/-- The shape of an instruction: the other direction of `Form.instr`. -/
def Instr.form (i : Instr) : Form :=
  match i with
  | .nop => .nop
  | .ld_BC_nn nn => .ldRrImm .BC nn
  | .ld_mBC_A => .ldPairA .BC
  | .inc_BC => .inc16 .BC
  | .inc_B => .incM (.reg .B)
  | .dec_B => .decM (.reg .B)
  | .ld_B_n n => .ldRegImm .B n
  | .rlca => .rlca
  | .ex_AF_AF => .exAF
  | .add_HL_BC => .add16 .HL .BC
  | .ld_A_mBC => .ldAPair .BC
  | .dec_BC => .dec16 .BC
  | .inc_C => .incM (.reg .C)
  | .dec_C => .decM (.reg .C)
  | .ld_C_n n => .ldRegImm .C n
  | .rrca => .rrca
  | .djnz_e e => .djnz e
  | .ld_DE_nn nn => .ldRrImm .DE nn
  | .ld_mDE_A => .ldPairA .DE
  | .inc_DE => .inc16 .DE
  | .inc_D => .incM (.reg .D)
  | .dec_D => .decM (.reg .D)
  | .ld_D_n n => .ldRegImm .D n
  | .rla => .rla
  | .jr_e e => .jr e
  | .add_HL_DE => .add16 .HL .DE
  | .ld_A_mDE => .ldAPair .DE
  | .dec_DE => .dec16 .DE
  | .inc_E => .incM (.reg .E)
  | .dec_E => .decM (.reg .E)
  | .ld_E_n n => .ldRegImm .E n
  | .rra => .rra
  | .jr_NZ_e e => .jrCc .NZ e
  | .ld_HL_nn nn => .ldRrImm .HL nn
  | .ld_mnn_HL nn => .stHLMem nn
  | .inc_HL => .inc16 .HL
  | .inc_H => .incM (.reg .H)
  | .dec_H => .decM (.reg .H)
  | .ld_H_n n => .ldRegImm .H n
  | .daa => .daa
  | .jr_Z_e e => .jrCc .Z e
  | .add_HL_HL => .add16 .HL .HL
  | .ld_HL_mnn nn => .ldHLMem nn
  | .dec_HL => .dec16 .HL
  | .inc_L => .incM (.reg .L)
  | .dec_L => .decM (.reg .L)
  | .ld_L_n n => .ldRegImm .L n
  | .cpl => .cpl
  | .jr_NC_e e => .jrCc .NC e
  | .ld_SP_nn nn => .ldRrImm .SP nn
  | .ld_mnn_A nn => .ldMemA nn
  | .inc_SP => .inc16 .SP
  | .inc_mHL => .incM .memHL
  | .dec_mHL => .decM .memHL
  | .ld_mHL_n n => .ldHLImm n
  | .scf => .scf
  | .jr_C_e e => .jrCc .C e
  | .add_HL_SP => .add16 .HL .SP
  | .ld_A_mnn nn => .ldAMem nn
  | .dec_SP => .dec16 .SP
  | .inc_A => .incM (.reg .A)
  | .dec_A => .decM (.reg .A)
  | .ld_A_n n => .ldRegImm .A n
  | .ccf => .ccf
  | .ld_B_B => .ldRegReg .B .B
  | .ld_B_C => .ldRegReg .B .C
  | .ld_B_D => .ldRegReg .B .D
  | .ld_B_E => .ldRegReg .B .E
  | .ld_B_H => .ldRegReg .B .H
  | .ld_B_L => .ldRegReg .B .L
  | .ld_B_mHL => .ldRegHL .B
  | .ld_B_A => .ldRegReg .B .A
  | .ld_C_B => .ldRegReg .C .B
  | .ld_C_C => .ldRegReg .C .C
  | .ld_C_D => .ldRegReg .C .D
  | .ld_C_E => .ldRegReg .C .E
  | .ld_C_H => .ldRegReg .C .H
  | .ld_C_L => .ldRegReg .C .L
  | .ld_C_mHL => .ldRegHL .C
  | .ld_C_A => .ldRegReg .C .A
  | .ld_D_B => .ldRegReg .D .B
  | .ld_D_C => .ldRegReg .D .C
  | .ld_D_D => .ldRegReg .D .D
  | .ld_D_E => .ldRegReg .D .E
  | .ld_D_H => .ldRegReg .D .H
  | .ld_D_L => .ldRegReg .D .L
  | .ld_D_mHL => .ldRegHL .D
  | .ld_D_A => .ldRegReg .D .A
  | .ld_E_B => .ldRegReg .E .B
  | .ld_E_C => .ldRegReg .E .C
  | .ld_E_D => .ldRegReg .E .D
  | .ld_E_E => .ldRegReg .E .E
  | .ld_E_H => .ldRegReg .E .H
  | .ld_E_L => .ldRegReg .E .L
  | .ld_E_mHL => .ldRegHL .E
  | .ld_E_A => .ldRegReg .E .A
  | .ld_H_B => .ldRegReg .H .B
  | .ld_H_C => .ldRegReg .H .C
  | .ld_H_D => .ldRegReg .H .D
  | .ld_H_E => .ldRegReg .H .E
  | .ld_H_H => .ldRegReg .H .H
  | .ld_H_L => .ldRegReg .H .L
  | .ld_H_mHL => .ldRegHL .H
  | .ld_H_A => .ldRegReg .H .A
  | .ld_L_B => .ldRegReg .L .B
  | .ld_L_C => .ldRegReg .L .C
  | .ld_L_D => .ldRegReg .L .D
  | .ld_L_E => .ldRegReg .L .E
  | .ld_L_H => .ldRegReg .L .H
  | .ld_L_L => .ldRegReg .L .L
  | .ld_L_mHL => .ldRegHL .L
  | .ld_L_A => .ldRegReg .L .A
  | .ld_mHL_B => .ldHLReg .B
  | .ld_mHL_C => .ldHLReg .C
  | .ld_mHL_D => .ldHLReg .D
  | .ld_mHL_E => .ldHLReg .E
  | .ld_mHL_H => .ldHLReg .H
  | .ld_mHL_L => .ldHLReg .L
  | .halt => .halt
  | .ld_mHL_A => .ldHLReg .A
  | .ld_A_B => .ldRegReg .A .B
  | .ld_A_C => .ldRegReg .A .C
  | .ld_A_D => .ldRegReg .A .D
  | .ld_A_E => .ldRegReg .A .E
  | .ld_A_H => .ldRegReg .A .H
  | .ld_A_L => .ldRegReg .A .L
  | .ld_A_mHL => .ldRegHL .A
  | .ld_A_A => .ldRegReg .A .A
  | .add_A_B => .alu .ADD (.reg .B)
  | .add_A_C => .alu .ADD (.reg .C)
  | .add_A_D => .alu .ADD (.reg .D)
  | .add_A_E => .alu .ADD (.reg .E)
  | .add_A_H => .alu .ADD (.reg .H)
  | .add_A_L => .alu .ADD (.reg .L)
  | .add_A_mHL => .alu .ADD .memHL
  | .add_A_A => .alu .ADD (.reg .A)
  | .adc_A_B => .alu .ADC (.reg .B)
  | .adc_A_C => .alu .ADC (.reg .C)
  | .adc_A_D => .alu .ADC (.reg .D)
  | .adc_A_E => .alu .ADC (.reg .E)
  | .adc_A_H => .alu .ADC (.reg .H)
  | .adc_A_L => .alu .ADC (.reg .L)
  | .adc_A_mHL => .alu .ADC .memHL
  | .adc_A_A => .alu .ADC (.reg .A)
  | .sub_B => .alu .SUB (.reg .B)
  | .sub_C => .alu .SUB (.reg .C)
  | .sub_D => .alu .SUB (.reg .D)
  | .sub_E => .alu .SUB (.reg .E)
  | .sub_H => .alu .SUB (.reg .H)
  | .sub_L => .alu .SUB (.reg .L)
  | .sub_mHL => .alu .SUB .memHL
  | .sub_A => .alu .SUB (.reg .A)
  | .sbc_A_B => .alu .SBC (.reg .B)
  | .sbc_A_C => .alu .SBC (.reg .C)
  | .sbc_A_D => .alu .SBC (.reg .D)
  | .sbc_A_E => .alu .SBC (.reg .E)
  | .sbc_A_H => .alu .SBC (.reg .H)
  | .sbc_A_L => .alu .SBC (.reg .L)
  | .sbc_A_mHL => .alu .SBC .memHL
  | .sbc_A_A => .alu .SBC (.reg .A)
  | .and_B => .alu .AND (.reg .B)
  | .and_C => .alu .AND (.reg .C)
  | .and_D => .alu .AND (.reg .D)
  | .and_E => .alu .AND (.reg .E)
  | .and_H => .alu .AND (.reg .H)
  | .and_L => .alu .AND (.reg .L)
  | .and_mHL => .alu .AND .memHL
  | .and_A => .alu .AND (.reg .A)
  | .xor_B => .alu .XOR (.reg .B)
  | .xor_C => .alu .XOR (.reg .C)
  | .xor_D => .alu .XOR (.reg .D)
  | .xor_E => .alu .XOR (.reg .E)
  | .xor_H => .alu .XOR (.reg .H)
  | .xor_L => .alu .XOR (.reg .L)
  | .xor_mHL => .alu .XOR .memHL
  | .xor_A => .alu .XOR (.reg .A)
  | .or_B => .alu .OR (.reg .B)
  | .or_C => .alu .OR (.reg .C)
  | .or_D => .alu .OR (.reg .D)
  | .or_E => .alu .OR (.reg .E)
  | .or_H => .alu .OR (.reg .H)
  | .or_L => .alu .OR (.reg .L)
  | .or_mHL => .alu .OR .memHL
  | .or_A => .alu .OR (.reg .A)
  | .cp_B => .alu .CP (.reg .B)
  | .cp_C => .alu .CP (.reg .C)
  | .cp_D => .alu .CP (.reg .D)
  | .cp_E => .alu .CP (.reg .E)
  | .cp_H => .alu .CP (.reg .H)
  | .cp_L => .alu .CP (.reg .L)
  | .cp_mHL => .alu .CP .memHL
  | .cp_A => .alu .CP (.reg .A)
  | .ret_NZ => .retCc .NZ
  | .pop_BC => .pop .BC
  | .jp_NZ_nn nn => .jpCc .NZ nn
  | .jp_nn nn => .jp nn
  | .call_NZ_nn nn => .callCc .NZ nn
  | .push_BC => .push .BC
  | .add_A_n n => .alu .ADD (.imm n)
  | .rst_00 => .rst 0
  | .ret_Z => .retCc .Z
  | .ret => .ret
  | .jp_Z_nn nn => .jpCc .Z nn
  | .call_Z_nn nn => .callCc .Z nn
  | .call_nn nn => .call nn
  | .adc_A_n n => .alu .ADC (.imm n)
  | .rst_08 => .rst 1
  | .ret_NC => .retCc .NC
  | .pop_DE => .pop .DE
  | .jp_NC_nn nn => .jpCc .NC nn
  | .out_mn_A n => .outA n
  | .call_NC_nn nn => .callCc .NC nn
  | .push_DE => .push .DE
  | .sub_n n => .alu .SUB (.imm n)
  | .rst_10 => .rst 2
  | .ret_C => .retCc .C
  | .exx => .exx
  | .jp_C_nn nn => .jpCc .C nn
  | .in_A_mn n => .inA n
  | .call_C_nn nn => .callCc .C nn
  | .sbc_A_n n => .alu .SBC (.imm n)
  | .rst_18 => .rst 3
  | .ret_PO => .retCc .PO
  | .pop_HL => .pop .HL
  | .jp_PO_nn nn => .jpCc .PO nn
  | .ex_mSP_HL => .exSP .HL
  | .call_PO_nn nn => .callCc .PO nn
  | .push_HL => .push .HL
  | .and_n n => .alu .AND (.imm n)
  | .rst_20 => .rst 4
  | .ret_PE => .retCc .PE
  | .jp_mHL => .jpReg .HL
  | .jp_PE_nn nn => .jpCc .PE nn
  | .ex_DE_HL => .exDEHL
  | .call_PE_nn nn => .callCc .PE nn
  | .xor_n n => .alu .XOR (.imm n)
  | .rst_28 => .rst 5
  | .ret_P => .retCc .P
  | .pop_AF => .pop .AF
  | .jp_P_nn nn => .jpCc .P nn
  | .di => .di
  | .call_P_nn nn => .callCc .P nn
  | .push_AF => .push .AF
  | .or_n n => .alu .OR (.imm n)
  | .rst_30 => .rst 6
  | .ret_M => .retCc .M
  | .ld_SP_HL => .ldSP .HL
  | .jp_M_nn nn => .jpCc .M nn
  | .ei => .ei
  | .call_M_nn nn => .callCc .M nn
  | .cp_n n => .alu .CP (.imm n)
  | .rst_38 => .rst 7
  | .rlc_B => .rot .RLC (.reg .B)
  | .rlc_C => .rot .RLC (.reg .C)
  | .rlc_D => .rot .RLC (.reg .D)
  | .rlc_E => .rot .RLC (.reg .E)
  | .rlc_H => .rot .RLC (.reg .H)
  | .rlc_L => .rot .RLC (.reg .L)
  | .rlc_mHL => .rot .RLC .memHL
  | .rlc_A => .rot .RLC (.reg .A)
  | .rrc_B => .rot .RRC (.reg .B)
  | .rrc_C => .rot .RRC (.reg .C)
  | .rrc_D => .rot .RRC (.reg .D)
  | .rrc_E => .rot .RRC (.reg .E)
  | .rrc_H => .rot .RRC (.reg .H)
  | .rrc_L => .rot .RRC (.reg .L)
  | .rrc_mHL => .rot .RRC .memHL
  | .rrc_A => .rot .RRC (.reg .A)
  | .rl_B => .rot .RL (.reg .B)
  | .rl_C => .rot .RL (.reg .C)
  | .rl_D => .rot .RL (.reg .D)
  | .rl_E => .rot .RL (.reg .E)
  | .rl_H => .rot .RL (.reg .H)
  | .rl_L => .rot .RL (.reg .L)
  | .rl_mHL => .rot .RL .memHL
  | .rl_A => .rot .RL (.reg .A)
  | .rr_B => .rot .RR (.reg .B)
  | .rr_C => .rot .RR (.reg .C)
  | .rr_D => .rot .RR (.reg .D)
  | .rr_E => .rot .RR (.reg .E)
  | .rr_H => .rot .RR (.reg .H)
  | .rr_L => .rot .RR (.reg .L)
  | .rr_mHL => .rot .RR .memHL
  | .rr_A => .rot .RR (.reg .A)
  | .sla_B => .rot .SLA (.reg .B)
  | .sla_C => .rot .SLA (.reg .C)
  | .sla_D => .rot .SLA (.reg .D)
  | .sla_E => .rot .SLA (.reg .E)
  | .sla_H => .rot .SLA (.reg .H)
  | .sla_L => .rot .SLA (.reg .L)
  | .sla_mHL => .rot .SLA .memHL
  | .sla_A => .rot .SLA (.reg .A)
  | .sra_B => .rot .SRA (.reg .B)
  | .sra_C => .rot .SRA (.reg .C)
  | .sra_D => .rot .SRA (.reg .D)
  | .sra_E => .rot .SRA (.reg .E)
  | .sra_H => .rot .SRA (.reg .H)
  | .sra_L => .rot .SRA (.reg .L)
  | .sra_mHL => .rot .SRA .memHL
  | .sra_A => .rot .SRA (.reg .A)
  | .sll_B => .rot .SLL (.reg .B)
  | .sll_C => .rot .SLL (.reg .C)
  | .sll_D => .rot .SLL (.reg .D)
  | .sll_E => .rot .SLL (.reg .E)
  | .sll_H => .rot .SLL (.reg .H)
  | .sll_L => .rot .SLL (.reg .L)
  | .sll_mHL => .rot .SLL .memHL
  | .sll_A => .rot .SLL (.reg .A)
  | .srl_B => .rot .SRL (.reg .B)
  | .srl_C => .rot .SRL (.reg .C)
  | .srl_D => .rot .SRL (.reg .D)
  | .srl_E => .rot .SRL (.reg .E)
  | .srl_H => .rot .SRL (.reg .H)
  | .srl_L => .rot .SRL (.reg .L)
  | .srl_mHL => .rot .SRL .memHL
  | .srl_A => .rot .SRL (.reg .A)
  | .bit_0_B => .bit 0 (.reg .B)
  | .bit_0_C => .bit 0 (.reg .C)
  | .bit_0_D => .bit 0 (.reg .D)
  | .bit_0_E => .bit 0 (.reg .E)
  | .bit_0_H => .bit 0 (.reg .H)
  | .bit_0_L => .bit 0 (.reg .L)
  | .bit_0_mHL => .bit 0 .memHL
  | .bit_0_A => .bit 0 (.reg .A)
  | .bit_1_B => .bit 1 (.reg .B)
  | .bit_1_C => .bit 1 (.reg .C)
  | .bit_1_D => .bit 1 (.reg .D)
  | .bit_1_E => .bit 1 (.reg .E)
  | .bit_1_H => .bit 1 (.reg .H)
  | .bit_1_L => .bit 1 (.reg .L)
  | .bit_1_mHL => .bit 1 .memHL
  | .bit_1_A => .bit 1 (.reg .A)
  | .bit_2_B => .bit 2 (.reg .B)
  | .bit_2_C => .bit 2 (.reg .C)
  | .bit_2_D => .bit 2 (.reg .D)
  | .bit_2_E => .bit 2 (.reg .E)
  | .bit_2_H => .bit 2 (.reg .H)
  | .bit_2_L => .bit 2 (.reg .L)
  | .bit_2_mHL => .bit 2 .memHL
  | .bit_2_A => .bit 2 (.reg .A)
  | .bit_3_B => .bit 3 (.reg .B)
  | .bit_3_C => .bit 3 (.reg .C)
  | .bit_3_D => .bit 3 (.reg .D)
  | .bit_3_E => .bit 3 (.reg .E)
  | .bit_3_H => .bit 3 (.reg .H)
  | .bit_3_L => .bit 3 (.reg .L)
  | .bit_3_mHL => .bit 3 .memHL
  | .bit_3_A => .bit 3 (.reg .A)
  | .bit_4_B => .bit 4 (.reg .B)
  | .bit_4_C => .bit 4 (.reg .C)
  | .bit_4_D => .bit 4 (.reg .D)
  | .bit_4_E => .bit 4 (.reg .E)
  | .bit_4_H => .bit 4 (.reg .H)
  | .bit_4_L => .bit 4 (.reg .L)
  | .bit_4_mHL => .bit 4 .memHL
  | .bit_4_A => .bit 4 (.reg .A)
  | .bit_5_B => .bit 5 (.reg .B)
  | .bit_5_C => .bit 5 (.reg .C)
  | .bit_5_D => .bit 5 (.reg .D)
  | .bit_5_E => .bit 5 (.reg .E)
  | .bit_5_H => .bit 5 (.reg .H)
  | .bit_5_L => .bit 5 (.reg .L)
  | .bit_5_mHL => .bit 5 .memHL
  | .bit_5_A => .bit 5 (.reg .A)
  | .bit_6_B => .bit 6 (.reg .B)
  | .bit_6_C => .bit 6 (.reg .C)
  | .bit_6_D => .bit 6 (.reg .D)
  | .bit_6_E => .bit 6 (.reg .E)
  | .bit_6_H => .bit 6 (.reg .H)
  | .bit_6_L => .bit 6 (.reg .L)
  | .bit_6_mHL => .bit 6 .memHL
  | .bit_6_A => .bit 6 (.reg .A)
  | .bit_7_B => .bit 7 (.reg .B)
  | .bit_7_C => .bit 7 (.reg .C)
  | .bit_7_D => .bit 7 (.reg .D)
  | .bit_7_E => .bit 7 (.reg .E)
  | .bit_7_H => .bit 7 (.reg .H)
  | .bit_7_L => .bit 7 (.reg .L)
  | .bit_7_mHL => .bit 7 .memHL
  | .bit_7_A => .bit 7 (.reg .A)
  | .res_0_B => .res 0 (.reg .B)
  | .res_0_C => .res 0 (.reg .C)
  | .res_0_D => .res 0 (.reg .D)
  | .res_0_E => .res 0 (.reg .E)
  | .res_0_H => .res 0 (.reg .H)
  | .res_0_L => .res 0 (.reg .L)
  | .res_0_mHL => .res 0 .memHL
  | .res_0_A => .res 0 (.reg .A)
  | .res_1_B => .res 1 (.reg .B)
  | .res_1_C => .res 1 (.reg .C)
  | .res_1_D => .res 1 (.reg .D)
  | .res_1_E => .res 1 (.reg .E)
  | .res_1_H => .res 1 (.reg .H)
  | .res_1_L => .res 1 (.reg .L)
  | .res_1_mHL => .res 1 .memHL
  | .res_1_A => .res 1 (.reg .A)
  | .res_2_B => .res 2 (.reg .B)
  | .res_2_C => .res 2 (.reg .C)
  | .res_2_D => .res 2 (.reg .D)
  | .res_2_E => .res 2 (.reg .E)
  | .res_2_H => .res 2 (.reg .H)
  | .res_2_L => .res 2 (.reg .L)
  | .res_2_mHL => .res 2 .memHL
  | .res_2_A => .res 2 (.reg .A)
  | .res_3_B => .res 3 (.reg .B)
  | .res_3_C => .res 3 (.reg .C)
  | .res_3_D => .res 3 (.reg .D)
  | .res_3_E => .res 3 (.reg .E)
  | .res_3_H => .res 3 (.reg .H)
  | .res_3_L => .res 3 (.reg .L)
  | .res_3_mHL => .res 3 .memHL
  | .res_3_A => .res 3 (.reg .A)
  | .res_4_B => .res 4 (.reg .B)
  | .res_4_C => .res 4 (.reg .C)
  | .res_4_D => .res 4 (.reg .D)
  | .res_4_E => .res 4 (.reg .E)
  | .res_4_H => .res 4 (.reg .H)
  | .res_4_L => .res 4 (.reg .L)
  | .res_4_mHL => .res 4 .memHL
  | .res_4_A => .res 4 (.reg .A)
  | .res_5_B => .res 5 (.reg .B)
  | .res_5_C => .res 5 (.reg .C)
  | .res_5_D => .res 5 (.reg .D)
  | .res_5_E => .res 5 (.reg .E)
  | .res_5_H => .res 5 (.reg .H)
  | .res_5_L => .res 5 (.reg .L)
  | .res_5_mHL => .res 5 .memHL
  | .res_5_A => .res 5 (.reg .A)
  | .res_6_B => .res 6 (.reg .B)
  | .res_6_C => .res 6 (.reg .C)
  | .res_6_D => .res 6 (.reg .D)
  | .res_6_E => .res 6 (.reg .E)
  | .res_6_H => .res 6 (.reg .H)
  | .res_6_L => .res 6 (.reg .L)
  | .res_6_mHL => .res 6 .memHL
  | .res_6_A => .res 6 (.reg .A)
  | .res_7_B => .res 7 (.reg .B)
  | .res_7_C => .res 7 (.reg .C)
  | .res_7_D => .res 7 (.reg .D)
  | .res_7_E => .res 7 (.reg .E)
  | .res_7_H => .res 7 (.reg .H)
  | .res_7_L => .res 7 (.reg .L)
  | .res_7_mHL => .res 7 .memHL
  | .res_7_A => .res 7 (.reg .A)
  | .set_0_B => .set 0 (.reg .B)
  | .set_0_C => .set 0 (.reg .C)
  | .set_0_D => .set 0 (.reg .D)
  | .set_0_E => .set 0 (.reg .E)
  | .set_0_H => .set 0 (.reg .H)
  | .set_0_L => .set 0 (.reg .L)
  | .set_0_mHL => .set 0 .memHL
  | .set_0_A => .set 0 (.reg .A)
  | .set_1_B => .set 1 (.reg .B)
  | .set_1_C => .set 1 (.reg .C)
  | .set_1_D => .set 1 (.reg .D)
  | .set_1_E => .set 1 (.reg .E)
  | .set_1_H => .set 1 (.reg .H)
  | .set_1_L => .set 1 (.reg .L)
  | .set_1_mHL => .set 1 .memHL
  | .set_1_A => .set 1 (.reg .A)
  | .set_2_B => .set 2 (.reg .B)
  | .set_2_C => .set 2 (.reg .C)
  | .set_2_D => .set 2 (.reg .D)
  | .set_2_E => .set 2 (.reg .E)
  | .set_2_H => .set 2 (.reg .H)
  | .set_2_L => .set 2 (.reg .L)
  | .set_2_mHL => .set 2 .memHL
  | .set_2_A => .set 2 (.reg .A)
  | .set_3_B => .set 3 (.reg .B)
  | .set_3_C => .set 3 (.reg .C)
  | .set_3_D => .set 3 (.reg .D)
  | .set_3_E => .set 3 (.reg .E)
  | .set_3_H => .set 3 (.reg .H)
  | .set_3_L => .set 3 (.reg .L)
  | .set_3_mHL => .set 3 .memHL
  | .set_3_A => .set 3 (.reg .A)
  | .set_4_B => .set 4 (.reg .B)
  | .set_4_C => .set 4 (.reg .C)
  | .set_4_D => .set 4 (.reg .D)
  | .set_4_E => .set 4 (.reg .E)
  | .set_4_H => .set 4 (.reg .H)
  | .set_4_L => .set 4 (.reg .L)
  | .set_4_mHL => .set 4 .memHL
  | .set_4_A => .set 4 (.reg .A)
  | .set_5_B => .set 5 (.reg .B)
  | .set_5_C => .set 5 (.reg .C)
  | .set_5_D => .set 5 (.reg .D)
  | .set_5_E => .set 5 (.reg .E)
  | .set_5_H => .set 5 (.reg .H)
  | .set_5_L => .set 5 (.reg .L)
  | .set_5_mHL => .set 5 .memHL
  | .set_5_A => .set 5 (.reg .A)
  | .set_6_B => .set 6 (.reg .B)
  | .set_6_C => .set 6 (.reg .C)
  | .set_6_D => .set 6 (.reg .D)
  | .set_6_E => .set 6 (.reg .E)
  | .set_6_H => .set 6 (.reg .H)
  | .set_6_L => .set 6 (.reg .L)
  | .set_6_mHL => .set 6 .memHL
  | .set_6_A => .set 6 (.reg .A)
  | .set_7_B => .set 7 (.reg .B)
  | .set_7_C => .set 7 (.reg .C)
  | .set_7_D => .set 7 (.reg .D)
  | .set_7_E => .set 7 (.reg .E)
  | .set_7_H => .set 7 (.reg .H)
  | .set_7_L => .set 7 (.reg .L)
  | .set_7_mHL => .set 7 .memHL
  | .set_7_A => .set 7 (.reg .A)
  | .in_B_mC => .inReg .B
  | .out_mC_B => .outReg .B
  | .sbc_HL_BC => .sbc16 .BC
  | .ld_mnn_BC nn => .stRpMem .BC nn
  | .neg => .neg
  | .retn => .retn
  | .im_0 => .im .im0
  | .ld_I_A => .ldIA
  | .in_C_mC => .inReg .C
  | .out_mC_C => .outReg .C
  | .adc_HL_BC => .adc16 .BC
  | .ld_BC_mnn nn => .ldRpMem .BC nn
  | .reti => .reti
  | .ld_R_A => .ldRA
  | .in_D_mC => .inReg .D
  | .out_mC_D => .outReg .D
  | .sbc_HL_DE => .sbc16 .DE
  | .ld_mnn_DE nn => .stRpMem .DE nn
  | .im_1 => .im .im1
  | .ld_A_I => .ldAI
  | .in_E_mC => .inReg .E
  | .out_mC_E => .outReg .E
  | .adc_HL_DE => .adc16 .DE
  | .ld_DE_mnn nn => .ldRpMem .DE nn
  | .im_2 => .im .im2
  | .ld_A_R => .ldAR
  | .in_H_mC => .inReg .H
  | .out_mC_H => .outReg .H
  | .sbc_HL_HL => .sbc16 .HL
  | .ld_mnn_HL_ed nn => .stRpMem .HL nn
  | .rrd => .rrd
  | .in_L_mC => .inReg .L
  | .out_mC_L => .outReg .L
  | .adc_HL_HL => .adc16 .HL
  | .ld_HL_mnn_ed nn => .ldRpMem .HL nn
  | .rld => .rld
  | .sbc_HL_SP => .sbc16 .SP
  | .ld_mnn_SP nn => .stRpMem .SP nn
  | .in_A_mC => .inReg .A
  | .out_mC_A => .outReg .A
  | .adc_HL_SP => .adc16 .SP
  | .ld_SP_mnn nn => .ldRpMem .SP nn
  | .ldi => .ldi
  | .cpi => .cpi
  | .ini => .ini
  | .outi => .outi
  | .ldd => .ldd
  | .cpd => .cpd
  | .ind => .ind
  | .outd => .outd
  | .ldir => .ldir
  | .cpir => .cpir
  | .inir => .inir
  | .otir => .otir
  | .lddr => .lddr
  | .cpdr => .cpdr
  | .indr => .indr
  | .otdr => .otdr
  | .add_IX_BC => .add16 .IX .BC
  | .add_IX_DE => .add16 .IX .DE
  | .ld_IX_nn nn => .ldRrImm .IX nn
  | .ld_mnn_IX nn => .stIdxMem .IX nn
  | .inc_IX => .inc16 .IX
  | .inc_IXH => .incM (.half .IX .H)
  | .dec_IXH => .decM (.half .IX .H)
  | .ld_IXH_n n => .ldHalfImm .IX .H n
  | .add_IX_IX => .add16 .IX .HL
  | .ld_IX_mnn nn => .ldIdxMem .IX nn
  | .dec_IX => .dec16 .IX
  | .inc_IXL => .incM (.half .IX .L)
  | .dec_IXL => .decM (.half .IX .L)
  | .ld_IXL_n n => .ldHalfImm .IX .L n
  | .inc_mIXd d => .incM (.memIdx .IX d)
  | .dec_mIXd d => .decM (.memIdx .IX d)
  | .ld_mIXd_n d n => .ldIdxImm .IX d n
  | .add_IX_SP => .add16 .IX .SP
  | .ld_B_IXH => .ldRegHalf .B .IX .H
  | .ld_B_IXL => .ldRegHalf .B .IX .L
  | .ld_B_mIXd d => .ldRegIdx .B .IX d
  | .ld_C_IXH => .ldRegHalf .C .IX .H
  | .ld_C_IXL => .ldRegHalf .C .IX .L
  | .ld_C_mIXd d => .ldRegIdx .C .IX d
  | .ld_D_IXH => .ldRegHalf .D .IX .H
  | .ld_D_IXL => .ldRegHalf .D .IX .L
  | .ld_D_mIXd d => .ldRegIdx .D .IX d
  | .ld_E_IXH => .ldRegHalf .E .IX .H
  | .ld_E_IXL => .ldRegHalf .E .IX .L
  | .ld_E_mIXd d => .ldRegIdx .E .IX d
  | .ld_IXH_B => .ldHalfReg .IX .H .B
  | .ld_IXH_C => .ldHalfReg .IX .H .C
  | .ld_IXH_D => .ldHalfReg .IX .H .D
  | .ld_IXH_E => .ldHalfReg .IX .H .E
  | .ld_IXH_IXH => .ldHalfHalf .IX .H .H
  | .ld_IXH_IXL => .ldHalfHalf .IX .H .L
  | .ld_H_mIXd d => .ldRegIdx .H .IX d
  | .ld_IXH_A => .ldHalfReg .IX .H .A
  | .ld_IXL_B => .ldHalfReg .IX .L .B
  | .ld_IXL_C => .ldHalfReg .IX .L .C
  | .ld_IXL_D => .ldHalfReg .IX .L .D
  | .ld_IXL_E => .ldHalfReg .IX .L .E
  | .ld_IXL_IXH => .ldHalfHalf .IX .L .H
  | .ld_IXL_IXL => .ldHalfHalf .IX .L .L
  | .ld_L_mIXd d => .ldRegIdx .L .IX d
  | .ld_IXL_A => .ldHalfReg .IX .L .A
  | .ld_mIXd_B d => .ldIdxReg .IX d .B
  | .ld_mIXd_C d => .ldIdxReg .IX d .C
  | .ld_mIXd_D d => .ldIdxReg .IX d .D
  | .ld_mIXd_E d => .ldIdxReg .IX d .E
  | .ld_mIXd_H d => .ldIdxReg .IX d .H
  | .ld_mIXd_L d => .ldIdxReg .IX d .L
  | .ld_mIXd_A d => .ldIdxReg .IX d .A
  | .ld_A_IXH => .ldRegHalf .A .IX .H
  | .ld_A_IXL => .ldRegHalf .A .IX .L
  | .ld_A_mIXd d => .ldRegIdx .A .IX d
  | .add_A_IXH => .alu .ADD (.half .IX .H)
  | .add_A_IXL => .alu .ADD (.half .IX .L)
  | .add_A_mIXd d => .alu .ADD (.memIdx .IX d)
  | .adc_A_IXH => .alu .ADC (.half .IX .H)
  | .adc_A_IXL => .alu .ADC (.half .IX .L)
  | .adc_A_mIXd d => .alu .ADC (.memIdx .IX d)
  | .sub_IXH => .alu .SUB (.half .IX .H)
  | .sub_IXL => .alu .SUB (.half .IX .L)
  | .sub_mIXd d => .alu .SUB (.memIdx .IX d)
  | .sbc_A_IXH => .alu .SBC (.half .IX .H)
  | .sbc_A_IXL => .alu .SBC (.half .IX .L)
  | .sbc_A_mIXd d => .alu .SBC (.memIdx .IX d)
  | .and_IXH => .alu .AND (.half .IX .H)
  | .and_IXL => .alu .AND (.half .IX .L)
  | .and_mIXd d => .alu .AND (.memIdx .IX d)
  | .xor_IXH => .alu .XOR (.half .IX .H)
  | .xor_IXL => .alu .XOR (.half .IX .L)
  | .xor_mIXd d => .alu .XOR (.memIdx .IX d)
  | .or_IXH => .alu .OR (.half .IX .H)
  | .or_IXL => .alu .OR (.half .IX .L)
  | .or_mIXd d => .alu .OR (.memIdx .IX d)
  | .cp_IXH => .alu .CP (.half .IX .H)
  | .cp_IXL => .alu .CP (.half .IX .L)
  | .cp_mIXd d => .alu .CP (.memIdx .IX d)
  | .pop_IX => .pop .IX
  | .ex_mSP_IX => .exSP .IX
  | .push_IX => .push .IX
  | .jp_mIX => .jpReg .IX
  | .ld_SP_IX => .ldSP .IX
  | .rlc_mIXd d => .rot .RLC (.memIdx .IX d)
  | .rrc_mIXd d => .rot .RRC (.memIdx .IX d)
  | .rl_mIXd d => .rot .RL (.memIdx .IX d)
  | .rr_mIXd d => .rot .RR (.memIdx .IX d)
  | .sla_mIXd d => .rot .SLA (.memIdx .IX d)
  | .sra_mIXd d => .rot .SRA (.memIdx .IX d)
  | .sll_mIXd d => .rot .SLL (.memIdx .IX d)
  | .srl_mIXd d => .rot .SRL (.memIdx .IX d)
  | .bit_0_mIXd d => .bit 0 (.memIdx .IX d)
  | .bit_1_mIXd d => .bit 1 (.memIdx .IX d)
  | .bit_2_mIXd d => .bit 2 (.memIdx .IX d)
  | .bit_3_mIXd d => .bit 3 (.memIdx .IX d)
  | .bit_4_mIXd d => .bit 4 (.memIdx .IX d)
  | .bit_5_mIXd d => .bit 5 (.memIdx .IX d)
  | .bit_6_mIXd d => .bit 6 (.memIdx .IX d)
  | .bit_7_mIXd d => .bit 7 (.memIdx .IX d)
  | .res_0_mIXd d => .res 0 (.memIdx .IX d)
  | .res_1_mIXd d => .res 1 (.memIdx .IX d)
  | .res_2_mIXd d => .res 2 (.memIdx .IX d)
  | .res_3_mIXd d => .res 3 (.memIdx .IX d)
  | .res_4_mIXd d => .res 4 (.memIdx .IX d)
  | .res_5_mIXd d => .res 5 (.memIdx .IX d)
  | .res_6_mIXd d => .res 6 (.memIdx .IX d)
  | .res_7_mIXd d => .res 7 (.memIdx .IX d)
  | .set_0_mIXd d => .set 0 (.memIdx .IX d)
  | .set_1_mIXd d => .set 1 (.memIdx .IX d)
  | .set_2_mIXd d => .set 2 (.memIdx .IX d)
  | .set_3_mIXd d => .set 3 (.memIdx .IX d)
  | .set_4_mIXd d => .set 4 (.memIdx .IX d)
  | .set_5_mIXd d => .set 5 (.memIdx .IX d)
  | .set_6_mIXd d => .set 6 (.memIdx .IX d)
  | .set_7_mIXd d => .set 7 (.memIdx .IX d)
  | .add_IY_BC => .add16 .IY .BC
  | .add_IY_DE => .add16 .IY .DE
  | .ld_IY_nn nn => .ldRrImm .IY nn
  | .ld_mnn_IY nn => .stIdxMem .IY nn
  | .inc_IY => .inc16 .IY
  | .inc_IYH => .incM (.half .IY .H)
  | .dec_IYH => .decM (.half .IY .H)
  | .ld_IYH_n n => .ldHalfImm .IY .H n
  | .add_IY_IY => .add16 .IY .HL
  | .ld_IY_mnn nn => .ldIdxMem .IY nn
  | .dec_IY => .dec16 .IY
  | .inc_IYL => .incM (.half .IY .L)
  | .dec_IYL => .decM (.half .IY .L)
  | .ld_IYL_n n => .ldHalfImm .IY .L n
  | .inc_mIYd d => .incM (.memIdx .IY d)
  | .dec_mIYd d => .decM (.memIdx .IY d)
  | .ld_mIYd_n d n => .ldIdxImm .IY d n
  | .add_IY_SP => .add16 .IY .SP
  | .ld_B_IYH => .ldRegHalf .B .IY .H
  | .ld_B_IYL => .ldRegHalf .B .IY .L
  | .ld_B_mIYd d => .ldRegIdx .B .IY d
  | .ld_C_IYH => .ldRegHalf .C .IY .H
  | .ld_C_IYL => .ldRegHalf .C .IY .L
  | .ld_C_mIYd d => .ldRegIdx .C .IY d
  | .ld_D_IYH => .ldRegHalf .D .IY .H
  | .ld_D_IYL => .ldRegHalf .D .IY .L
  | .ld_D_mIYd d => .ldRegIdx .D .IY d
  | .ld_E_IYH => .ldRegHalf .E .IY .H
  | .ld_E_IYL => .ldRegHalf .E .IY .L
  | .ld_E_mIYd d => .ldRegIdx .E .IY d
  | .ld_IYH_B => .ldHalfReg .IY .H .B
  | .ld_IYH_C => .ldHalfReg .IY .H .C
  | .ld_IYH_D => .ldHalfReg .IY .H .D
  | .ld_IYH_E => .ldHalfReg .IY .H .E
  | .ld_IYH_IYH => .ldHalfHalf .IY .H .H
  | .ld_IYH_IYL => .ldHalfHalf .IY .H .L
  | .ld_H_mIYd d => .ldRegIdx .H .IY d
  | .ld_IYH_A => .ldHalfReg .IY .H .A
  | .ld_IYL_B => .ldHalfReg .IY .L .B
  | .ld_IYL_C => .ldHalfReg .IY .L .C
  | .ld_IYL_D => .ldHalfReg .IY .L .D
  | .ld_IYL_E => .ldHalfReg .IY .L .E
  | .ld_IYL_IYH => .ldHalfHalf .IY .L .H
  | .ld_IYL_IYL => .ldHalfHalf .IY .L .L
  | .ld_L_mIYd d => .ldRegIdx .L .IY d
  | .ld_IYL_A => .ldHalfReg .IY .L .A
  | .ld_mIYd_B d => .ldIdxReg .IY d .B
  | .ld_mIYd_C d => .ldIdxReg .IY d .C
  | .ld_mIYd_D d => .ldIdxReg .IY d .D
  | .ld_mIYd_E d => .ldIdxReg .IY d .E
  | .ld_mIYd_H d => .ldIdxReg .IY d .H
  | .ld_mIYd_L d => .ldIdxReg .IY d .L
  | .ld_mIYd_A d => .ldIdxReg .IY d .A
  | .ld_A_IYH => .ldRegHalf .A .IY .H
  | .ld_A_IYL => .ldRegHalf .A .IY .L
  | .ld_A_mIYd d => .ldRegIdx .A .IY d
  | .add_A_IYH => .alu .ADD (.half .IY .H)
  | .add_A_IYL => .alu .ADD (.half .IY .L)
  | .add_A_mIYd d => .alu .ADD (.memIdx .IY d)
  | .adc_A_IYH => .alu .ADC (.half .IY .H)
  | .adc_A_IYL => .alu .ADC (.half .IY .L)
  | .adc_A_mIYd d => .alu .ADC (.memIdx .IY d)
  | .sub_IYH => .alu .SUB (.half .IY .H)
  | .sub_IYL => .alu .SUB (.half .IY .L)
  | .sub_mIYd d => .alu .SUB (.memIdx .IY d)
  | .sbc_A_IYH => .alu .SBC (.half .IY .H)
  | .sbc_A_IYL => .alu .SBC (.half .IY .L)
  | .sbc_A_mIYd d => .alu .SBC (.memIdx .IY d)
  | .and_IYH => .alu .AND (.half .IY .H)
  | .and_IYL => .alu .AND (.half .IY .L)
  | .and_mIYd d => .alu .AND (.memIdx .IY d)
  | .xor_IYH => .alu .XOR (.half .IY .H)
  | .xor_IYL => .alu .XOR (.half .IY .L)
  | .xor_mIYd d => .alu .XOR (.memIdx .IY d)
  | .or_IYH => .alu .OR (.half .IY .H)
  | .or_IYL => .alu .OR (.half .IY .L)
  | .or_mIYd d => .alu .OR (.memIdx .IY d)
  | .cp_IYH => .alu .CP (.half .IY .H)
  | .cp_IYL => .alu .CP (.half .IY .L)
  | .cp_mIYd d => .alu .CP (.memIdx .IY d)
  | .pop_IY => .pop .IY
  | .ex_mSP_IY => .exSP .IY
  | .push_IY => .push .IY
  | .jp_mIY => .jpReg .IY
  | .ld_SP_IY => .ldSP .IY
  | .rlc_mIYd d => .rot .RLC (.memIdx .IY d)
  | .rrc_mIYd d => .rot .RRC (.memIdx .IY d)
  | .rl_mIYd d => .rot .RL (.memIdx .IY d)
  | .rr_mIYd d => .rot .RR (.memIdx .IY d)
  | .sla_mIYd d => .rot .SLA (.memIdx .IY d)
  | .sra_mIYd d => .rot .SRA (.memIdx .IY d)
  | .sll_mIYd d => .rot .SLL (.memIdx .IY d)
  | .srl_mIYd d => .rot .SRL (.memIdx .IY d)
  | .bit_0_mIYd d => .bit 0 (.memIdx .IY d)
  | .bit_1_mIYd d => .bit 1 (.memIdx .IY d)
  | .bit_2_mIYd d => .bit 2 (.memIdx .IY d)
  | .bit_3_mIYd d => .bit 3 (.memIdx .IY d)
  | .bit_4_mIYd d => .bit 4 (.memIdx .IY d)
  | .bit_5_mIYd d => .bit 5 (.memIdx .IY d)
  | .bit_6_mIYd d => .bit 6 (.memIdx .IY d)
  | .bit_7_mIYd d => .bit 7 (.memIdx .IY d)
  | .res_0_mIYd d => .res 0 (.memIdx .IY d)
  | .res_1_mIYd d => .res 1 (.memIdx .IY d)
  | .res_2_mIYd d => .res 2 (.memIdx .IY d)
  | .res_3_mIYd d => .res 3 (.memIdx .IY d)
  | .res_4_mIYd d => .res 4 (.memIdx .IY d)
  | .res_5_mIYd d => .res 5 (.memIdx .IY d)
  | .res_6_mIYd d => .res 6 (.memIdx .IY d)
  | .res_7_mIYd d => .res 7 (.memIdx .IY d)
  | .set_0_mIYd d => .set 0 (.memIdx .IY d)
  | .set_1_mIYd d => .set 1 (.memIdx .IY d)
  | .set_2_mIYd d => .set 2 (.memIdx .IY d)
  | .set_3_mIYd d => .set 3 (.memIdx .IY d)
  | .set_4_mIYd d => .set 4 (.memIdx .IY d)
  | .set_5_mIYd d => .set 5 (.memIdx .IY d)
  | .set_6_mIYd d => .set 6 (.memIdx .IY d)
  | .set_7_mIYd d => .set 7 (.memIdx .IY d)

theorem Instr.form_instr (i : Instr) : i.form.instr = i := by cases i <;> rfl

/-- A property of all shapes is a property of all instructions. -/
theorem Instr.forall_of_form (p : Instr → Prop) (h : ∀ f : Form, p f.instr) (i : Instr) : p i := by
  rw [← i.form_instr]; exact h _

namespace Machine

/-- The shared operation of a shape, with its operands. -/
def execForm (f : Form) (s : State) : State :=
  match f with
  | .alu op src => opAlu op src s
  | .incM m => opInc8 m s
  | .decM m => opDec8 m s
  | .daa => opAcc daa8 s
  | .cpl => opAcc cpl8 s
  | .neg => opAcc neg8 s
  | .ccf => opCcf s
  | .scf => opScf s
  | .add16 dst src => opWord addWord dst.reg (src.addSource dst) s
  | .adc16 src => opWord adcWord .HL src.reg s
  | .sbc16 src => opWord sbcWord .HL src.reg s
  | .inc16 rr => opStep16 1 rr.reg s
  | .dec16 rr => opStep16 0xFFFF rr.reg s
  | .rlca => opAccRot .RLC s
  | .rrca => opAccRot .RRC s
  | .rla => opAccRot .RL s
  | .rra => opAccRot .RR s
  | .rot op m => opRot op m s
  | .rld => opRld s
  | .rrd => opRrd s
  | .bit b m => opBit b m s
  | .set b m => opSet b m s
  | .res b m => opRes b m s
  | .ldi => opBlockLd .up s
  | .ldd => opBlockLd .down s
  | .ldir => opBlockLdRepeat .up s
  | .lddr => opBlockLdRepeat .down s
  | .cpi => opBlockCp .up s
  | .cpd => opBlockCp .down s
  | .cpir => opBlockCpRepeat .up s
  | .cpdr => opBlockCpRepeat .down s
  | .ini => opBlockIn .up s
  | .ind => opBlockIn .down s
  | .inir => opBlockInRepeat .up s
  | .indr => opBlockInRepeat .down s
  | .outi => opBlockOut .up s
  | .outd => opBlockOut .down s
  | .otir => opBlockOutRepeat .up s
  | .otdr => opBlockOutRepeat .down s
  | .ldRegReg dst src => opLd8 (.reg dst) (.place (.reg src)) s
  | .ldRegImm r n => opLd8 (.reg r) (.imm n) s
  | .ldRegHL r => opLd8 (.reg r) (.place (.mem .HL)) s
  | .ldRegIdx r x d => opLd8 (.reg r) (.place (.mem (.idx x d))) s
  | .ldHLReg r => opLd8 (.mem .HL) (.place (.reg r)) s
  | .ldIdxReg x d r => opLd8 (.mem (.idx x d)) (.place (.reg r)) s
  | .ldHLImm n => opLd8 (.mem .HL) (.imm n) s
  | .ldIdxImm x d n => opLd8 (.mem (.idx x d)) (.imm n) s
  | .ldAPair p => opLd8 (.reg .A) (.place (.mem p.ea)) s
  | .ldAMem nn => opLd8 (.reg .A) (.place (.mem (.abs nn))) s
  | .ldPairA p => opLd8 (.mem p.ea) (.place (.reg .A)) s
  | .ldMemA nn => opLd8 (.mem (.abs nn)) (.place (.reg .A)) s
  | .ldRegHalf r x h => opLd8 (.reg r.reg) (.place (.half x h)) s
  | .ldHalfReg x h r => opLd8 (.half x h) (.place (.reg r.reg)) s
  | .ldHalfHalf x dst src => opLd8 (.half x dst) (.place (.half x src)) s
  | .ldHalfImm x h n => opLd8 (.half x h) (.imm n) s
  | .ldAI => opLdASpecial s.I s
  | .ldAR => opLdASpecial s.R s
  | .ldIA => { s with I := s.A }
  | .ldRA => { s with R := s.A }
  | .ldRrImm rr nn => opLdWord rr.reg nn s
  | .ldHLMem nn => opLdFromMem .HL nn s
  | .ldRpMem p nn => opLdFromMem p.reg nn s
  | .ldIdxMem x nn => opLdFromMem x.reg nn s
  | .stHLMem nn => opStToMem .HL nn s
  | .stRpMem p nn => opStToMem p.reg nn s
  | .stIdxMem x nn => opStToMem x.reg nn s
  | .ldSP xx => opLdWord .SP (s.get16 xx.reg) s
  | .exDEHL => opExDeHl s
  | .exAF => opExAf s
  | .exx => opExx s
  | .exSP xx => opExSp xx.reg s
  | .push q => opPush q.reg s
  | .pop q => opPop q.reg s
  | .jp nn => opJump nn s
  | .jpCc c nn => opIf c (opJump nn) s
  | .jr e => opJumpRelative e s
  | .jrCc c e => opIf c.cond (opJumpRelative e) s
  | .jpReg xx => opJump (s.get16 xx.reg) s
  | .djnz e => opDjnz e s
  | .call nn => opCall nn s
  | .callCc c nn => opIf c (opCall nn) s
  | .ret => returnToCaller s
  | .retCc c => opIf c returnToCaller s
  | .reti => returnFromMaskable s
  | .retn => returnFromNonMaskable s
  | .rst y => opCall (rstTarget y) s
  | .inReg r => opInReg r s
  | .inA n => opInA n s
  | .outReg r => opOutReg r s
  | .outA n => opOutA n s
  | .nop => s
  | .halt => opHalt s
  | .di => opDi s
  | .ei => opEi s
  | .im m => opIm m s

/-- What `exec` answers on a shape with operands: the next state its shared operation gives. -/
theorem exec_form (f : Form) (s : State) : exec f.instr s = .next (execForm f s) := by
  cases f with
  | alu op src => cases op <;> rcases src with ⟨⟨⟩⟩ | ⟨⟨⟩, ⟨⟩⟩ | _ | ⟨⟨⟩, _⟩ | _ <;> rfl
  | incM m => rcases m with ⟨⟨⟩⟩ | ⟨⟨⟩, ⟨⟩⟩ | _ | ⟨⟨⟩, _⟩ <;> rfl
  | decM m => rcases m with ⟨⟨⟩⟩ | ⟨⟨⟩, ⟨⟩⟩ | _ | ⟨⟨⟩, _⟩ <;> rfl
  | daa => rfl
  | cpl => rfl
  | neg => rfl
  | ccf => rfl
  | scf => rfl
  | add16 dst src => cases dst <;> cases src <;> rfl
  | adc16 src => cases src <;> rfl
  | sbc16 src => cases src <;> rfl
  | inc16 rr => cases rr <;> rfl
  | dec16 rr => cases rr <;> rfl
  | rlca => rfl
  | rrca => rfl
  | rla => rfl
  | rra => rfl
  | rot op m => cases op <;> rcases m with ⟨⟨⟩⟩ | _ | ⟨⟨⟩, _⟩ <;> rfl
  | rld => rfl
  | rrd => rfl
  | bit b m => fin_cases b <;> rcases m with ⟨⟨⟩⟩ | _ | ⟨⟨⟩, _⟩ <;> rfl
  | set b m => fin_cases b <;> rcases m with ⟨⟨⟩⟩ | _ | ⟨⟨⟩, _⟩ <;> rfl
  | res b m => fin_cases b <;> rcases m with ⟨⟨⟩⟩ | _ | ⟨⟨⟩, _⟩ <;> rfl
  | ldi => rfl
  | ldd => rfl
  | ldir => rfl
  | lddr => rfl
  | cpi => rfl
  | cpd => rfl
  | cpir => rfl
  | cpdr => rfl
  | ini => rfl
  | ind => rfl
  | inir => rfl
  | indr => rfl
  | outi => rfl
  | outd => rfl
  | otir => rfl
  | otdr => rfl
  | ldRegReg dst src => cases dst <;> cases src <;> rfl
  | ldRegImm r _ => cases r <;> rfl
  | ldRegHL r => cases r <;> rfl
  | ldRegIdx r x _ => cases r <;> cases x <;> rfl
  | ldHLReg r => cases r <;> rfl
  | ldIdxReg x _ r => cases x <;> cases r <;> rfl
  | ldHLImm _ => rfl
  | ldIdxImm x _ _ => cases x <;> rfl
  | ldAPair p => cases p <;> rfl
  | ldAMem _ => rfl
  | ldPairA p => cases p <;> rfl
  | ldMemA _ => rfl
  | ldRegHalf r x h => cases r <;> cases x <;> cases h <;> rfl
  | ldHalfReg x h r => cases x <;> cases h <;> cases r <;> rfl
  | ldHalfHalf x dst src => cases x <;> cases dst <;> cases src <;> rfl
  | ldHalfImm x h _ => cases x <;> cases h <;> rfl
  | ldAI => rfl
  | ldAR => rfl
  | ldIA => rfl
  | ldRA => rfl
  | ldRrImm rr _ => cases rr <;> rfl
  | ldHLMem _ => rfl
  | ldRpMem p _ => cases p <;> rfl
  | ldIdxMem x _ => cases x <;> rfl
  | stHLMem _ => rfl
  | stRpMem p _ => cases p <;> rfl
  | stIdxMem x _ => cases x <;> rfl
  | ldSP xx => cases xx <;> rfl
  | exDEHL => rfl
  | exAF => rfl
  | exx => rfl
  | exSP xx => cases xx <;> rfl
  | push q => cases q <;> rfl
  | pop q => cases q <;> rfl
  | jp _ => rfl
  | jpCc c _ => cases c <;> rfl
  | jr _ => rfl
  | jrCc c _ => cases c <;> rfl
  | jpReg xx => cases xx <;> rfl
  | djnz _ => rfl
  | call _ => rfl
  | callCc c _ => cases c <;> rfl
  | ret => rfl
  | retCc c => cases c <;> rfl
  | reti => rfl
  | retn => rfl
  | rst y => fin_cases y <;> rfl
  | inReg r => cases r <;> rfl
  | inA _ => rfl
  | outReg r => cases r <;> rfl
  | outA _ => rfl
  | nop => rfl
  | halt => rfl
  | di => rfl
  | ei => rfl
  | im m => cases m <;> rfl

/-- Every instruction completes: what it answers is the next state of its shape (60_exceptions.md R414). -/
theorem exec_eq_next (i : Instr) (s : State) : exec i s = .next (execForm i.form s) := by
  rw [← exec_form, i.form_instr]

end Machine

end Sys2Proof
end

