-- ==== Sys2Proof/Laws/Memory.lean ====
section
/-! SUPPORT. The laws of `PLAIN_RAM` (20_memory.md R71, R77): a read after a write, other addresses, and the canonical form. -/

namespace Sys2Proof.Machine

theorem Memory.read_erase_same (m : Memory) (a : Nat) : (m.erase a).read a = Config.unlistedByte := by
  induction m with
  | nil => rfl
  | cons c m ih =>
    obtain ⟨k, v⟩ := c
    by_cases h : k = a
    · simpa [Memory.erase, h] using ih
    · simpa [Memory.erase, Memory.read, h] using ih

theorem Memory.read_erase_other (m : Memory) {a b : Nat} (h : b ≠ a) : (m.erase a).read b = m.read b := by
  induction m with
  | nil => rfl
  | cons c m ih =>
    obtain ⟨k, v⟩ := c
    by_cases hk : k = a
    · simpa [Memory.erase, Memory.read, hk, h.symm] using ih
    · by_cases hb : k = b
      · subst hb
        simp [Memory.erase, Memory.read, hk]
      · simpa [Memory.erase, Memory.read, hk, hb] using ih

theorem Memory.read_insert_same (m : Memory) (a : Nat) (v : Byte) (h : ∀ c ∈ m, c.1 ≠ a) : (m.insert a v).read a = v := by
  induction m with
  | nil => simp [Memory.insert, Memory.read]
  | cons c m ih =>
    obtain ⟨k, w⟩ := c
    have hk : k ≠ a := h (k, w) (by simp)
    have hm : ∀ c ∈ m, c.1 ≠ a := fun c hc => h c (by simp [hc])
    unfold Memory.insert
    split
    · simp [Memory.read]
    · simpa [Memory.read, hk] using ih hm

theorem Memory.read_insert_other (m : Memory) {a b : Nat} (v : Byte) (h : b ≠ a) : (m.insert a v).read b = m.read b := by
  induction m with
  | nil => simp [Memory.insert, Memory.read, h.symm]
  | cons c m ih =>
    obtain ⟨k, w⟩ := c
    unfold Memory.insert
    split
    · simp [Memory.read, h.symm]
    · simp [Memory.read, ih]

theorem Memory.erase_ne (m : Memory) (a : Nat) : ∀ c ∈ m.erase a, c.1 ≠ a := by
  simp [Memory.erase]

/-- A read after a write of the same address gives the byte written (R71). -/
theorem Memory.read_write_same (m : Memory) (a : Nat) (v : Byte) : (m.write a v).read a = v := by
  unfold Memory.write
  split
  · next h => rw [h]; exact m.read_erase_same a
  · exact Memory.read_insert_same _ _ _ (m.erase_ne a)

/-- A write leaves every other address alone (R71). -/
theorem Memory.read_write_other (m : Memory) {a b : Nat} (v : Byte) (h : b ≠ a) : (m.write a v).read b = m.read b := by
  unfold Memory.write
  split
  · exact m.read_erase_other h
  · rw [Memory.read_insert_other _ _ h, m.read_erase_other h]

theorem Memory.read_write (m : Memory) (a b : Nat) (v : Byte) :
    (m.write a v).read b = if b = a then v else m.read b := by
  split
  · next h => rw [h]; exact m.read_write_same a v
  · next h => exact m.read_write_other v h

theorem Memory.wf_erase {m : Memory} (a : Nat) (h : m.wf = true) : (m.erase a).wf = true := by
  induction m with
  | nil => rfl
  | cons c m ih =>
    obtain ⟨k, v⟩ := c
    simp only [Memory.wf, Bool.and_eq_true, decide_eq_true_eq, List.all_eq_true] at h
    obtain ⟨⟨⟨hk, hv⟩, hm⟩, hw⟩ := h
    by_cases hka : k = a
    · simpa [Memory.erase, hka] using ih hw
    · have := ih hw
      have hall : ∀ c ∈ Memory.erase m a, k < c.1 := fun c hc => hm c (List.mem_of_mem_filter hc)
      have heq : Memory.erase ((k, v) :: m) a = (k, v) :: Memory.erase m a := by simp [Memory.erase, hka]
      rw [heq]
      simp only [Memory.wf, Bool.and_eq_true, decide_eq_true_eq, List.all_eq_true]
      exact ⟨⟨⟨hk, hv⟩, hall⟩, this⟩

theorem Memory.mem_insert (m : Memory) (a : Nat) (v : Byte) (c : Host.Cell) (h : c ∈ m.insert a v) : c = (a, v) ∨ c ∈ m := by
  induction m with
  | nil => simpa [Memory.insert] using h
  | cons d m ih =>
    obtain ⟨k, w⟩ := d
    unfold Memory.insert at h
    split at h
    · simpa using h
    · rcases List.mem_cons.1 h with h | h
      · right; simp [h]
      · rcases ih h with h | h
        · left; exact h
        · right; simp [h]

theorem Memory.wf_insert {m : Memory} {a : Nat} {v : Byte} (ha : a < 65536) (hv : v ≠ Config.unlistedByte)
    (hne : ∀ c ∈ m, c.1 ≠ a) (h : m.wf = true) : (m.insert a v).wf = true := by
  induction m with
  | nil => simp [Memory.insert, Memory.wf, ha, hv]
  | cons c m ih =>
    obtain ⟨k, w⟩ := c
    have h0 := h
    simp only [Memory.wf, Bool.and_eq_true, decide_eq_true_eq, List.all_eq_true] at h
    obtain ⟨⟨⟨hk, hw⟩, hm⟩, hwf⟩ := h
    have hka : k ≠ a := hne (k, w) (by simp)
    have hne' : ∀ c ∈ m, c.1 ≠ a := fun c hc => hne c (by simp [hc])
    unfold Memory.insert
    split
    · next hlt =>
      have hall : ∀ c ∈ (k, w) :: m, a < c.1 := by
        intro c hc
        rcases List.mem_cons.1 hc with hc | hc
        · rw [hc]; exact hlt
        · exact lt_trans hlt (hm c hc)
      rw [Memory.wf]
      simp only [Bool.and_eq_true, decide_eq_true_eq, List.all_eq_true]
      exact ⟨⟨⟨ha, hv⟩, hall⟩, h0⟩
    · next hnlt =>
      have hlt : k < a := by omega
      simp only [Memory.wf, Bool.and_eq_true, decide_eq_true_eq, List.all_eq_true]
      refine ⟨⟨⟨hk, hw⟩, ?_⟩, ih hne' hwf⟩
      intro c hc
      rcases Memory.mem_insert m a v c hc with hc | hc
      · rw [hc]; exact hlt
      · exact hm c hc

/-- A write keeps the canonical form. -/
theorem Memory.wf_write {m : Memory} {a : Nat} (v : Byte) (ha : a < 65536) (h : m.wf = true) : (m.write a v).wf = true := by
  unfold Memory.write
  split
  · exact Memory.wf_erase a h
  · next hv => exact Memory.wf_insert ha hv (m.erase_ne a) (Memory.wf_erase a h)

theorem Memory.wf_reset : State.reset.mem.wf = true := rfl

/-- Every 16-bit address lies in the address space (20_memory.md R64). -/
theorem Word.toNat_lt (a : Word) : a.toNat < 65536 := a.isLt

end Sys2Proof.Machine
end

