-- ==== Sys2Proof/Laws/State.lean ====
section
/-! SUPPORT. What each named update of the state leaves in each field: one lemma per field per update, so that no proof unfolds a
record update. -/

namespace Sys2Proof.Machine

/-! ### A request recorded -/

@[simp] theorem State.log_A (s : State) (x : Access) : (s.log x).A = s.A := rfl
@[simp] theorem State.log_B (s : State) (x : Access) : (s.log x).B = s.B := rfl
@[simp] theorem State.log_C (s : State) (x : Access) : (s.log x).C = s.C := rfl
@[simp] theorem State.log_D (s : State) (x : Access) : (s.log x).D = s.D := rfl
@[simp] theorem State.log_E (s : State) (x : Access) : (s.log x).E = s.E := rfl
@[simp] theorem State.log_H (s : State) (x : Access) : (s.log x).H = s.H := rfl
@[simp] theorem State.log_L (s : State) (x : Access) : (s.log x).L = s.L := rfl
@[simp] theorem State.log_F (s : State) (x : Access) : (s.log x).F = s.F := rfl
@[simp] theorem State.log_A_shadow (s : State) (x : Access) : (s.log x).A' = s.A' := rfl
@[simp] theorem State.log_F_shadow (s : State) (x : Access) : (s.log x).F' = s.F' := rfl
@[simp] theorem State.log_B_shadow (s : State) (x : Access) : (s.log x).B' = s.B' := rfl
@[simp] theorem State.log_C_shadow (s : State) (x : Access) : (s.log x).C' = s.C' := rfl
@[simp] theorem State.log_D_shadow (s : State) (x : Access) : (s.log x).D' = s.D' := rfl
@[simp] theorem State.log_E_shadow (s : State) (x : Access) : (s.log x).E' = s.E' := rfl
@[simp] theorem State.log_H_shadow (s : State) (x : Access) : (s.log x).H' = s.H' := rfl
@[simp] theorem State.log_L_shadow (s : State) (x : Access) : (s.log x).L' = s.L' := rfl
@[simp] theorem State.log_IX (s : State) (x : Access) : (s.log x).IX = s.IX := rfl
@[simp] theorem State.log_IY (s : State) (x : Access) : (s.log x).IY = s.IY := rfl
@[simp] theorem State.log_SP (s : State) (x : Access) : (s.log x).SP = s.SP := rfl
@[simp] theorem State.log_PC (s : State) (x : Access) : (s.log x).PC = s.PC := rfl
@[simp] theorem State.log_I (s : State) (x : Access) : (s.log x).I = s.I := rfl
@[simp] theorem State.log_R (s : State) (x : Access) : (s.log x).R = s.R := rfl
@[simp] theorem State.log_IFF1 (s : State) (x : Access) : (s.log x).IFF1 = s.IFF1 := rfl
@[simp] theorem State.log_IFF2 (s : State) (x : Access) : (s.log x).IFF2 = s.IFF2 := rfl
@[simp] theorem State.log_IM (s : State) (x : Access) : (s.log x).IM = s.IM := rfl
@[simp] theorem State.log_Halted (s : State) (x : Access) : (s.log x).Halted = s.Halted := rfl
@[simp] theorem State.log_eiPending (s : State) (x : Access) : (s.log x).eiPending = s.eiPending := rfl
@[simp] theorem State.log_memDevice (s : State) (x : Access) : (s.log x).memDevice = s.memDevice := rfl
@[simp] theorem State.log_mem (s : State) (x : Access) : (s.log x).mem = s.mem := rfl
@[simp] theorem State.log_memAnswers (s : State) (x : Access) : (s.log x).memAnswers = s.memAnswers := rfl
@[simp] theorem State.log_portAnswers (s : State) (x : Access) : (s.log x).portAnswers = s.portAnswers := rfl
@[simp] theorem State.log_draws (s : State) (x : Access) : (s.log x).draws = s.draws := rfl
@[simp] theorem State.log_report (s : State) (x : Access) : (s.log x).report = s.report := rfl
@[simp] theorem State.log_schedule (s : State) (x : Access) : (s.log x).schedule = s.schedule := rfl

@[simp] theorem State.log_accesses (s : State) (x : Access) : (s.log x).accesses = s.accesses ++ [x] := rfl

/-! ### A byte written -/

@[simp] theorem State.memWrite_A (s : State) (a : Word) (v : Byte) : (s.memWrite a v).A = s.A := rfl
@[simp] theorem State.memWrite_B (s : State) (a : Word) (v : Byte) : (s.memWrite a v).B = s.B := rfl
@[simp] theorem State.memWrite_C (s : State) (a : Word) (v : Byte) : (s.memWrite a v).C = s.C := rfl
@[simp] theorem State.memWrite_D (s : State) (a : Word) (v : Byte) : (s.memWrite a v).D = s.D := rfl
@[simp] theorem State.memWrite_E (s : State) (a : Word) (v : Byte) : (s.memWrite a v).E = s.E := rfl
@[simp] theorem State.memWrite_H (s : State) (a : Word) (v : Byte) : (s.memWrite a v).H = s.H := rfl
@[simp] theorem State.memWrite_L (s : State) (a : Word) (v : Byte) : (s.memWrite a v).L = s.L := rfl
@[simp] theorem State.memWrite_F (s : State) (a : Word) (v : Byte) : (s.memWrite a v).F = s.F := rfl
@[simp] theorem State.memWrite_A_shadow (s : State) (a : Word) (v : Byte) : (s.memWrite a v).A' = s.A' := rfl
@[simp] theorem State.memWrite_F_shadow (s : State) (a : Word) (v : Byte) : (s.memWrite a v).F' = s.F' := rfl
@[simp] theorem State.memWrite_B_shadow (s : State) (a : Word) (v : Byte) : (s.memWrite a v).B' = s.B' := rfl
@[simp] theorem State.memWrite_C_shadow (s : State) (a : Word) (v : Byte) : (s.memWrite a v).C' = s.C' := rfl
@[simp] theorem State.memWrite_D_shadow (s : State) (a : Word) (v : Byte) : (s.memWrite a v).D' = s.D' := rfl
@[simp] theorem State.memWrite_E_shadow (s : State) (a : Word) (v : Byte) : (s.memWrite a v).E' = s.E' := rfl
@[simp] theorem State.memWrite_H_shadow (s : State) (a : Word) (v : Byte) : (s.memWrite a v).H' = s.H' := rfl
@[simp] theorem State.memWrite_L_shadow (s : State) (a : Word) (v : Byte) : (s.memWrite a v).L' = s.L' := rfl
@[simp] theorem State.memWrite_IX (s : State) (a : Word) (v : Byte) : (s.memWrite a v).IX = s.IX := rfl
@[simp] theorem State.memWrite_IY (s : State) (a : Word) (v : Byte) : (s.memWrite a v).IY = s.IY := rfl
@[simp] theorem State.memWrite_SP (s : State) (a : Word) (v : Byte) : (s.memWrite a v).SP = s.SP := rfl
@[simp] theorem State.memWrite_PC (s : State) (a : Word) (v : Byte) : (s.memWrite a v).PC = s.PC := rfl
@[simp] theorem State.memWrite_I (s : State) (a : Word) (v : Byte) : (s.memWrite a v).I = s.I := rfl
@[simp] theorem State.memWrite_R (s : State) (a : Word) (v : Byte) : (s.memWrite a v).R = s.R := rfl
@[simp] theorem State.memWrite_IFF1 (s : State) (a : Word) (v : Byte) : (s.memWrite a v).IFF1 = s.IFF1 := rfl
@[simp] theorem State.memWrite_IFF2 (s : State) (a : Word) (v : Byte) : (s.memWrite a v).IFF2 = s.IFF2 := rfl
@[simp] theorem State.memWrite_IM (s : State) (a : Word) (v : Byte) : (s.memWrite a v).IM = s.IM := rfl
@[simp] theorem State.memWrite_Halted (s : State) (a : Word) (v : Byte) : (s.memWrite a v).Halted = s.Halted := rfl
@[simp] theorem State.memWrite_eiPending (s : State) (a : Word) (v : Byte) : (s.memWrite a v).eiPending = s.eiPending := rfl
@[simp] theorem State.memWrite_memDevice (s : State) (a : Word) (v : Byte) : (s.memWrite a v).memDevice = s.memDevice := rfl
@[simp] theorem State.memWrite_memAnswers (s : State) (a : Word) (v : Byte) : (s.memWrite a v).memAnswers = s.memAnswers := rfl
@[simp] theorem State.memWrite_portAnswers (s : State) (a : Word) (v : Byte) : (s.memWrite a v).portAnswers = s.portAnswers := rfl
@[simp] theorem State.memWrite_draws (s : State) (a : Word) (v : Byte) : (s.memWrite a v).draws = s.draws := rfl
@[simp] theorem State.memWrite_report (s : State) (a : Word) (v : Byte) : (s.memWrite a v).report = s.report := rfl
@[simp] theorem State.memWrite_schedule (s : State) (a : Word) (v : Byte) : (s.memWrite a v).schedule = s.schedule := rfl

@[simp] theorem State.memWrite_mem (s : State) (a : Word) (v : Byte) :
    (s.memWrite a v).mem = s.memDevice.write s.mem a v := rfl
@[simp] theorem State.memWrite_accesses (s : State) (a : Word) (v : Byte) :
    (s.memWrite a v).accesses = s.accesses ++ [.memWrite a v] := rfl

/-! ### A byte read -/

@[simp] theorem State.memRead_A (s : State) (a : Word) : ((s.memRead a).2).A = s.A := rfl
@[simp] theorem State.memRead_B (s : State) (a : Word) : ((s.memRead a).2).B = s.B := rfl
@[simp] theorem State.memRead_C (s : State) (a : Word) : ((s.memRead a).2).C = s.C := rfl
@[simp] theorem State.memRead_D (s : State) (a : Word) : ((s.memRead a).2).D = s.D := rfl
@[simp] theorem State.memRead_E (s : State) (a : Word) : ((s.memRead a).2).E = s.E := rfl
@[simp] theorem State.memRead_H (s : State) (a : Word) : ((s.memRead a).2).H = s.H := rfl
@[simp] theorem State.memRead_L (s : State) (a : Word) : ((s.memRead a).2).L = s.L := rfl
@[simp] theorem State.memRead_F (s : State) (a : Word) : ((s.memRead a).2).F = s.F := rfl
@[simp] theorem State.memRead_A_shadow (s : State) (a : Word) : ((s.memRead a).2).A' = s.A' := rfl
@[simp] theorem State.memRead_F_shadow (s : State) (a : Word) : ((s.memRead a).2).F' = s.F' := rfl
@[simp] theorem State.memRead_B_shadow (s : State) (a : Word) : ((s.memRead a).2).B' = s.B' := rfl
@[simp] theorem State.memRead_C_shadow (s : State) (a : Word) : ((s.memRead a).2).C' = s.C' := rfl
@[simp] theorem State.memRead_D_shadow (s : State) (a : Word) : ((s.memRead a).2).D' = s.D' := rfl
@[simp] theorem State.memRead_E_shadow (s : State) (a : Word) : ((s.memRead a).2).E' = s.E' := rfl
@[simp] theorem State.memRead_H_shadow (s : State) (a : Word) : ((s.memRead a).2).H' = s.H' := rfl
@[simp] theorem State.memRead_L_shadow (s : State) (a : Word) : ((s.memRead a).2).L' = s.L' := rfl
@[simp] theorem State.memRead_IX (s : State) (a : Word) : ((s.memRead a).2).IX = s.IX := rfl
@[simp] theorem State.memRead_IY (s : State) (a : Word) : ((s.memRead a).2).IY = s.IY := rfl
@[simp] theorem State.memRead_SP (s : State) (a : Word) : ((s.memRead a).2).SP = s.SP := rfl
@[simp] theorem State.memRead_PC (s : State) (a : Word) : ((s.memRead a).2).PC = s.PC := rfl
@[simp] theorem State.memRead_I (s : State) (a : Word) : ((s.memRead a).2).I = s.I := rfl
@[simp] theorem State.memRead_R (s : State) (a : Word) : ((s.memRead a).2).R = s.R := rfl
@[simp] theorem State.memRead_IFF1 (s : State) (a : Word) : ((s.memRead a).2).IFF1 = s.IFF1 := rfl
@[simp] theorem State.memRead_IFF2 (s : State) (a : Word) : ((s.memRead a).2).IFF2 = s.IFF2 := rfl
@[simp] theorem State.memRead_IM (s : State) (a : Word) : ((s.memRead a).2).IM = s.IM := rfl
@[simp] theorem State.memRead_Halted (s : State) (a : Word) : ((s.memRead a).2).Halted = s.Halted := rfl
@[simp] theorem State.memRead_eiPending (s : State) (a : Word) : ((s.memRead a).2).eiPending = s.eiPending := rfl
@[simp] theorem State.memRead_memDevice (s : State) (a : Word) : ((s.memRead a).2).memDevice = s.memDevice := rfl
@[simp] theorem State.memRead_mem (s : State) (a : Word) : ((s.memRead a).2).mem = s.mem := rfl
@[simp] theorem State.memRead_portAnswers (s : State) (a : Word) : ((s.memRead a).2).portAnswers = s.portAnswers := rfl
@[simp] theorem State.memRead_report (s : State) (a : Word) : ((s.memRead a).2).report = s.report := rfl
@[simp] theorem State.memRead_schedule (s : State) (a : Word) : ((s.memRead a).2).schedule = s.schedule := rfl

@[simp] theorem State.memRead_memAnswers (s : State) (a : Word) :
    (s.memRead a).2.memAnswers = s.memAnswers.drop (s.memDevice.draws 1) := rfl
@[simp] theorem State.memRead_draws (s : State) (a : Word) : (s.memRead a).2.draws = s.draws + s.memDevice.draws 1 := rfl
@[simp] theorem State.memRead_value (s : State) (a : Word) : (s.memRead a).1 = s.peek a := rfl
@[simp] theorem State.memRead_accesses (s : State) (a : Word) :
    (s.memRead a).2.accesses = s.accesses ++ [.memRead a (s.peek a)] := rfl

/-! ### A port read -/

@[simp] theorem State.ioRead_A (s : State) (port : Word) : ((s.ioRead port).2).A = s.A := rfl
@[simp] theorem State.ioRead_B (s : State) (port : Word) : ((s.ioRead port).2).B = s.B := rfl
@[simp] theorem State.ioRead_C (s : State) (port : Word) : ((s.ioRead port).2).C = s.C := rfl
@[simp] theorem State.ioRead_D (s : State) (port : Word) : ((s.ioRead port).2).D = s.D := rfl
@[simp] theorem State.ioRead_E (s : State) (port : Word) : ((s.ioRead port).2).E = s.E := rfl
@[simp] theorem State.ioRead_H (s : State) (port : Word) : ((s.ioRead port).2).H = s.H := rfl
@[simp] theorem State.ioRead_L (s : State) (port : Word) : ((s.ioRead port).2).L = s.L := rfl
@[simp] theorem State.ioRead_F (s : State) (port : Word) : ((s.ioRead port).2).F = s.F := rfl
@[simp] theorem State.ioRead_A_shadow (s : State) (port : Word) : ((s.ioRead port).2).A' = s.A' := rfl
@[simp] theorem State.ioRead_F_shadow (s : State) (port : Word) : ((s.ioRead port).2).F' = s.F' := rfl
@[simp] theorem State.ioRead_B_shadow (s : State) (port : Word) : ((s.ioRead port).2).B' = s.B' := rfl
@[simp] theorem State.ioRead_C_shadow (s : State) (port : Word) : ((s.ioRead port).2).C' = s.C' := rfl
@[simp] theorem State.ioRead_D_shadow (s : State) (port : Word) : ((s.ioRead port).2).D' = s.D' := rfl
@[simp] theorem State.ioRead_E_shadow (s : State) (port : Word) : ((s.ioRead port).2).E' = s.E' := rfl
@[simp] theorem State.ioRead_H_shadow (s : State) (port : Word) : ((s.ioRead port).2).H' = s.H' := rfl
@[simp] theorem State.ioRead_L_shadow (s : State) (port : Word) : ((s.ioRead port).2).L' = s.L' := rfl
@[simp] theorem State.ioRead_IX (s : State) (port : Word) : ((s.ioRead port).2).IX = s.IX := rfl
@[simp] theorem State.ioRead_IY (s : State) (port : Word) : ((s.ioRead port).2).IY = s.IY := rfl
@[simp] theorem State.ioRead_SP (s : State) (port : Word) : ((s.ioRead port).2).SP = s.SP := rfl
@[simp] theorem State.ioRead_PC (s : State) (port : Word) : ((s.ioRead port).2).PC = s.PC := rfl
@[simp] theorem State.ioRead_I (s : State) (port : Word) : ((s.ioRead port).2).I = s.I := rfl
@[simp] theorem State.ioRead_R (s : State) (port : Word) : ((s.ioRead port).2).R = s.R := rfl
@[simp] theorem State.ioRead_IFF1 (s : State) (port : Word) : ((s.ioRead port).2).IFF1 = s.IFF1 := rfl
@[simp] theorem State.ioRead_IFF2 (s : State) (port : Word) : ((s.ioRead port).2).IFF2 = s.IFF2 := rfl
@[simp] theorem State.ioRead_IM (s : State) (port : Word) : ((s.ioRead port).2).IM = s.IM := rfl
@[simp] theorem State.ioRead_Halted (s : State) (port : Word) : ((s.ioRead port).2).Halted = s.Halted := rfl
@[simp] theorem State.ioRead_eiPending (s : State) (port : Word) : ((s.ioRead port).2).eiPending = s.eiPending := rfl
@[simp] theorem State.ioRead_memDevice (s : State) (port : Word) : ((s.ioRead port).2).memDevice = s.memDevice := rfl
@[simp] theorem State.ioRead_mem (s : State) (port : Word) : ((s.ioRead port).2).mem = s.mem := rfl
@[simp] theorem State.ioRead_memAnswers (s : State) (port : Word) : ((s.ioRead port).2).memAnswers = s.memAnswers := rfl
@[simp] theorem State.ioRead_report (s : State) (port : Word) : ((s.ioRead port).2).report = s.report := rfl
@[simp] theorem State.ioRead_schedule (s : State) (port : Word) : ((s.ioRead port).2).schedule = s.schedule := rfl

@[simp] theorem State.ioRead_value (s : State) (port : Word) : (s.ioRead port).1 = s.portAnswer port := rfl
@[simp] theorem State.ioRead_portAnswers (s : State) (port : Word) :
    (s.ioRead port).2.portAnswers = s.portAnswers.tail := rfl
@[simp] theorem State.ioRead_draws (s : State) (port : Word) : (s.ioRead port).2.draws = s.draws + 1 := rfl
@[simp] theorem State.ioRead_accesses (s : State) (port : Word) :
    (s.ioRead port).2.accesses = s.accesses ++ [.ioRead port (s.portAnswer port)] := rfl

/-! ### A port write -/

@[simp] theorem State.ioWrite_A (s : State) (port : Word) (v : Byte) : (s.ioWrite port v).A = s.A := rfl
@[simp] theorem State.ioWrite_B (s : State) (port : Word) (v : Byte) : (s.ioWrite port v).B = s.B := rfl
@[simp] theorem State.ioWrite_C (s : State) (port : Word) (v : Byte) : (s.ioWrite port v).C = s.C := rfl
@[simp] theorem State.ioWrite_D (s : State) (port : Word) (v : Byte) : (s.ioWrite port v).D = s.D := rfl
@[simp] theorem State.ioWrite_E (s : State) (port : Word) (v : Byte) : (s.ioWrite port v).E = s.E := rfl
@[simp] theorem State.ioWrite_H (s : State) (port : Word) (v : Byte) : (s.ioWrite port v).H = s.H := rfl
@[simp] theorem State.ioWrite_L (s : State) (port : Word) (v : Byte) : (s.ioWrite port v).L = s.L := rfl
@[simp] theorem State.ioWrite_F (s : State) (port : Word) (v : Byte) : (s.ioWrite port v).F = s.F := rfl
@[simp] theorem State.ioWrite_A_shadow (s : State) (port : Word) (v : Byte) : (s.ioWrite port v).A' = s.A' := rfl
@[simp] theorem State.ioWrite_F_shadow (s : State) (port : Word) (v : Byte) : (s.ioWrite port v).F' = s.F' := rfl
@[simp] theorem State.ioWrite_B_shadow (s : State) (port : Word) (v : Byte) : (s.ioWrite port v).B' = s.B' := rfl
@[simp] theorem State.ioWrite_C_shadow (s : State) (port : Word) (v : Byte) : (s.ioWrite port v).C' = s.C' := rfl
@[simp] theorem State.ioWrite_D_shadow (s : State) (port : Word) (v : Byte) : (s.ioWrite port v).D' = s.D' := rfl
@[simp] theorem State.ioWrite_E_shadow (s : State) (port : Word) (v : Byte) : (s.ioWrite port v).E' = s.E' := rfl
@[simp] theorem State.ioWrite_H_shadow (s : State) (port : Word) (v : Byte) : (s.ioWrite port v).H' = s.H' := rfl
@[simp] theorem State.ioWrite_L_shadow (s : State) (port : Word) (v : Byte) : (s.ioWrite port v).L' = s.L' := rfl
@[simp] theorem State.ioWrite_IX (s : State) (port : Word) (v : Byte) : (s.ioWrite port v).IX = s.IX := rfl
@[simp] theorem State.ioWrite_IY (s : State) (port : Word) (v : Byte) : (s.ioWrite port v).IY = s.IY := rfl
@[simp] theorem State.ioWrite_SP (s : State) (port : Word) (v : Byte) : (s.ioWrite port v).SP = s.SP := rfl
@[simp] theorem State.ioWrite_PC (s : State) (port : Word) (v : Byte) : (s.ioWrite port v).PC = s.PC := rfl
@[simp] theorem State.ioWrite_I (s : State) (port : Word) (v : Byte) : (s.ioWrite port v).I = s.I := rfl
@[simp] theorem State.ioWrite_R (s : State) (port : Word) (v : Byte) : (s.ioWrite port v).R = s.R := rfl
@[simp] theorem State.ioWrite_IFF1 (s : State) (port : Word) (v : Byte) : (s.ioWrite port v).IFF1 = s.IFF1 := rfl
@[simp] theorem State.ioWrite_IFF2 (s : State) (port : Word) (v : Byte) : (s.ioWrite port v).IFF2 = s.IFF2 := rfl
@[simp] theorem State.ioWrite_IM (s : State) (port : Word) (v : Byte) : (s.ioWrite port v).IM = s.IM := rfl
@[simp] theorem State.ioWrite_Halted (s : State) (port : Word) (v : Byte) : (s.ioWrite port v).Halted = s.Halted := rfl
@[simp] theorem State.ioWrite_eiPending (s : State) (port : Word) (v : Byte) : (s.ioWrite port v).eiPending = s.eiPending := rfl
@[simp] theorem State.ioWrite_memDevice (s : State) (port : Word) (v : Byte) : (s.ioWrite port v).memDevice = s.memDevice := rfl
@[simp] theorem State.ioWrite_mem (s : State) (port : Word) (v : Byte) : (s.ioWrite port v).mem = s.mem := rfl
@[simp] theorem State.ioWrite_memAnswers (s : State) (port : Word) (v : Byte) : (s.ioWrite port v).memAnswers = s.memAnswers := rfl
@[simp] theorem State.ioWrite_portAnswers (s : State) (port : Word) (v : Byte) : (s.ioWrite port v).portAnswers = s.portAnswers := rfl
@[simp] theorem State.ioWrite_draws (s : State) (port : Word) (v : Byte) : (s.ioWrite port v).draws = s.draws := rfl
@[simp] theorem State.ioWrite_report (s : State) (port : Word) (v : Byte) : (s.ioWrite port v).report = s.report := rfl
@[simp] theorem State.ioWrite_schedule (s : State) (port : Word) (v : Byte) : (s.ioWrite port v).schedule = s.schedule := rfl

@[simp] theorem State.ioWrite_accesses (s : State) (port : Word) (v : Byte) :
    (s.ioWrite port v).accesses = s.accesses ++ [.ioWrite port v] := rfl

/-! ### An 8-bit register written -/

@[simp] theorem State.set8_F (s : State) (r : Reg8) (v : Byte) : (s.set8 r v).F = s.F := by cases r <;> rfl
@[simp] theorem State.set8_A_shadow (s : State) (r : Reg8) (v : Byte) : (s.set8 r v).A' = s.A' := by cases r <;> rfl
@[simp] theorem State.set8_F_shadow (s : State) (r : Reg8) (v : Byte) : (s.set8 r v).F' = s.F' := by cases r <;> rfl
@[simp] theorem State.set8_B_shadow (s : State) (r : Reg8) (v : Byte) : (s.set8 r v).B' = s.B' := by cases r <;> rfl
@[simp] theorem State.set8_C_shadow (s : State) (r : Reg8) (v : Byte) : (s.set8 r v).C' = s.C' := by cases r <;> rfl
@[simp] theorem State.set8_D_shadow (s : State) (r : Reg8) (v : Byte) : (s.set8 r v).D' = s.D' := by cases r <;> rfl
@[simp] theorem State.set8_E_shadow (s : State) (r : Reg8) (v : Byte) : (s.set8 r v).E' = s.E' := by cases r <;> rfl
@[simp] theorem State.set8_H_shadow (s : State) (r : Reg8) (v : Byte) : (s.set8 r v).H' = s.H' := by cases r <;> rfl
@[simp] theorem State.set8_L_shadow (s : State) (r : Reg8) (v : Byte) : (s.set8 r v).L' = s.L' := by cases r <;> rfl
@[simp] theorem State.set8_IX (s : State) (r : Reg8) (v : Byte) : (s.set8 r v).IX = s.IX := by cases r <;> rfl
@[simp] theorem State.set8_IY (s : State) (r : Reg8) (v : Byte) : (s.set8 r v).IY = s.IY := by cases r <;> rfl
@[simp] theorem State.set8_SP (s : State) (r : Reg8) (v : Byte) : (s.set8 r v).SP = s.SP := by cases r <;> rfl
@[simp] theorem State.set8_PC (s : State) (r : Reg8) (v : Byte) : (s.set8 r v).PC = s.PC := by cases r <;> rfl
@[simp] theorem State.set8_I (s : State) (r : Reg8) (v : Byte) : (s.set8 r v).I = s.I := by cases r <;> rfl
@[simp] theorem State.set8_R (s : State) (r : Reg8) (v : Byte) : (s.set8 r v).R = s.R := by cases r <;> rfl
@[simp] theorem State.set8_IFF1 (s : State) (r : Reg8) (v : Byte) : (s.set8 r v).IFF1 = s.IFF1 := by cases r <;> rfl
@[simp] theorem State.set8_IFF2 (s : State) (r : Reg8) (v : Byte) : (s.set8 r v).IFF2 = s.IFF2 := by cases r <;> rfl
@[simp] theorem State.set8_IM (s : State) (r : Reg8) (v : Byte) : (s.set8 r v).IM = s.IM := by cases r <;> rfl
@[simp] theorem State.set8_Halted (s : State) (r : Reg8) (v : Byte) : (s.set8 r v).Halted = s.Halted := by cases r <;> rfl
@[simp] theorem State.set8_eiPending (s : State) (r : Reg8) (v : Byte) : (s.set8 r v).eiPending = s.eiPending := by cases r <;> rfl
@[simp] theorem State.set8_memDevice (s : State) (r : Reg8) (v : Byte) : (s.set8 r v).memDevice = s.memDevice := by cases r <;> rfl
@[simp] theorem State.set8_mem (s : State) (r : Reg8) (v : Byte) : (s.set8 r v).mem = s.mem := by cases r <;> rfl
@[simp] theorem State.set8_memAnswers (s : State) (r : Reg8) (v : Byte) : (s.set8 r v).memAnswers = s.memAnswers := by cases r <;> rfl
@[simp] theorem State.set8_portAnswers (s : State) (r : Reg8) (v : Byte) : (s.set8 r v).portAnswers = s.portAnswers := by cases r <;> rfl
@[simp] theorem State.set8_draws (s : State) (r : Reg8) (v : Byte) : (s.set8 r v).draws = s.draws := by cases r <;> rfl
@[simp] theorem State.set8_accesses (s : State) (r : Reg8) (v : Byte) : (s.set8 r v).accesses = s.accesses := by cases r <;> rfl
@[simp] theorem State.set8_report (s : State) (r : Reg8) (v : Byte) : (s.set8 r v).report = s.report := by cases r <;> rfl
@[simp] theorem State.set8_schedule (s : State) (r : Reg8) (v : Byte) : (s.set8 r v).schedule = s.schedule := by cases r <;> rfl

theorem State.get8_set8 (s : State) (r q : Reg8) (v : Byte) : (s.set8 r v).get8 q = if q = r then v else s.get8 q := by
  cases r <;> cases q <;> rfl

/-! ### A pair or 16-bit register written -/

@[simp] theorem State.set16_A_shadow (s : State) (r : Reg16) (v : Word) : (s.set16 r v).A' = s.A' := by cases r <;> rfl
@[simp] theorem State.set16_F_shadow (s : State) (r : Reg16) (v : Word) : (s.set16 r v).F' = s.F' := by cases r <;> rfl
@[simp] theorem State.set16_B_shadow (s : State) (r : Reg16) (v : Word) : (s.set16 r v).B' = s.B' := by cases r <;> rfl
@[simp] theorem State.set16_C_shadow (s : State) (r : Reg16) (v : Word) : (s.set16 r v).C' = s.C' := by cases r <;> rfl
@[simp] theorem State.set16_D_shadow (s : State) (r : Reg16) (v : Word) : (s.set16 r v).D' = s.D' := by cases r <;> rfl
@[simp] theorem State.set16_E_shadow (s : State) (r : Reg16) (v : Word) : (s.set16 r v).E' = s.E' := by cases r <;> rfl
@[simp] theorem State.set16_H_shadow (s : State) (r : Reg16) (v : Word) : (s.set16 r v).H' = s.H' := by cases r <;> rfl
@[simp] theorem State.set16_L_shadow (s : State) (r : Reg16) (v : Word) : (s.set16 r v).L' = s.L' := by cases r <;> rfl
@[simp] theorem State.set16_PC (s : State) (r : Reg16) (v : Word) : (s.set16 r v).PC = s.PC := by cases r <;> rfl
@[simp] theorem State.set16_I (s : State) (r : Reg16) (v : Word) : (s.set16 r v).I = s.I := by cases r <;> rfl
@[simp] theorem State.set16_R (s : State) (r : Reg16) (v : Word) : (s.set16 r v).R = s.R := by cases r <;> rfl
@[simp] theorem State.set16_IFF1 (s : State) (r : Reg16) (v : Word) : (s.set16 r v).IFF1 = s.IFF1 := by cases r <;> rfl
@[simp] theorem State.set16_IFF2 (s : State) (r : Reg16) (v : Word) : (s.set16 r v).IFF2 = s.IFF2 := by cases r <;> rfl
@[simp] theorem State.set16_IM (s : State) (r : Reg16) (v : Word) : (s.set16 r v).IM = s.IM := by cases r <;> rfl
@[simp] theorem State.set16_Halted (s : State) (r : Reg16) (v : Word) : (s.set16 r v).Halted = s.Halted := by cases r <;> rfl
@[simp] theorem State.set16_eiPending (s : State) (r : Reg16) (v : Word) : (s.set16 r v).eiPending = s.eiPending := by cases r <;> rfl
@[simp] theorem State.set16_memDevice (s : State) (r : Reg16) (v : Word) : (s.set16 r v).memDevice = s.memDevice := by cases r <;> rfl
@[simp] theorem State.set16_mem (s : State) (r : Reg16) (v : Word) : (s.set16 r v).mem = s.mem := by cases r <;> rfl
@[simp] theorem State.set16_memAnswers (s : State) (r : Reg16) (v : Word) : (s.set16 r v).memAnswers = s.memAnswers := by cases r <;> rfl
@[simp] theorem State.set16_portAnswers (s : State) (r : Reg16) (v : Word) : (s.set16 r v).portAnswers = s.portAnswers := by cases r <;> rfl
@[simp] theorem State.set16_draws (s : State) (r : Reg16) (v : Word) : (s.set16 r v).draws = s.draws := by cases r <;> rfl
@[simp] theorem State.set16_accesses (s : State) (r : Reg16) (v : Word) : (s.set16 r v).accesses = s.accesses := by cases r <;> rfl
@[simp] theorem State.set16_report (s : State) (r : Reg16) (v : Word) : (s.set16 r v).report = s.report := by cases r <;> rfl
@[simp] theorem State.set16_schedule (s : State) (r : Reg16) (v : Word) : (s.set16 r v).schedule = s.schedule := by cases r <;> rfl

theorem State.set16_BC (s : State) (v : Word) : s.set16 .BC v = { s with B := hiByte v, C := loByte v } := rfl
theorem State.set16_DE (s : State) (v : Word) : s.set16 .DE v = { s with D := hiByte v, E := loByte v } := rfl
theorem State.set16_HL (s : State) (v : Word) : s.set16 .HL v = { s with H := hiByte v, L := loByte v } := rfl
theorem State.set16_AF (s : State) (v : Word) : s.set16 .AF v = { s with A := hiByte v, F := Flags.unpack (loByte v) } := rfl
theorem State.set16_SP (s : State) (v : Word) : s.set16 .SP v = { s with SP := v } := rfl
theorem State.set16_IX (s : State) (v : Word) : s.set16 .IX v = { s with IX := v } := rfl
theorem State.set16_IY (s : State) (v : Word) : s.set16 .IY v = { s with IY := v } := rfl

/-! ### A half of an index register written -/

@[simp] theorem State.setHalf_A (s : State) (x : Idx) (h : Side) (v : Byte) : (s.setHalf x h v).A = s.A := by cases x <;> cases h <;> rfl
@[simp] theorem State.setHalf_B (s : State) (x : Idx) (h : Side) (v : Byte) : (s.setHalf x h v).B = s.B := by cases x <;> cases h <;> rfl
@[simp] theorem State.setHalf_C (s : State) (x : Idx) (h : Side) (v : Byte) : (s.setHalf x h v).C = s.C := by cases x <;> cases h <;> rfl
@[simp] theorem State.setHalf_D (s : State) (x : Idx) (h : Side) (v : Byte) : (s.setHalf x h v).D = s.D := by cases x <;> cases h <;> rfl
@[simp] theorem State.setHalf_E (s : State) (x : Idx) (h : Side) (v : Byte) : (s.setHalf x h v).E = s.E := by cases x <;> cases h <;> rfl
@[simp] theorem State.setHalf_H (s : State) (x : Idx) (h : Side) (v : Byte) : (s.setHalf x h v).H = s.H := by cases x <;> cases h <;> rfl
@[simp] theorem State.setHalf_L (s : State) (x : Idx) (h : Side) (v : Byte) : (s.setHalf x h v).L = s.L := by cases x <;> cases h <;> rfl
@[simp] theorem State.setHalf_F (s : State) (x : Idx) (h : Side) (v : Byte) : (s.setHalf x h v).F = s.F := by cases x <;> cases h <;> rfl
@[simp] theorem State.setHalf_A_shadow (s : State) (x : Idx) (h : Side) (v : Byte) : (s.setHalf x h v).A' = s.A' := by cases x <;> cases h <;> rfl
@[simp] theorem State.setHalf_F_shadow (s : State) (x : Idx) (h : Side) (v : Byte) : (s.setHalf x h v).F' = s.F' := by cases x <;> cases h <;> rfl
@[simp] theorem State.setHalf_B_shadow (s : State) (x : Idx) (h : Side) (v : Byte) : (s.setHalf x h v).B' = s.B' := by cases x <;> cases h <;> rfl
@[simp] theorem State.setHalf_C_shadow (s : State) (x : Idx) (h : Side) (v : Byte) : (s.setHalf x h v).C' = s.C' := by cases x <;> cases h <;> rfl
@[simp] theorem State.setHalf_D_shadow (s : State) (x : Idx) (h : Side) (v : Byte) : (s.setHalf x h v).D' = s.D' := by cases x <;> cases h <;> rfl
@[simp] theorem State.setHalf_E_shadow (s : State) (x : Idx) (h : Side) (v : Byte) : (s.setHalf x h v).E' = s.E' := by cases x <;> cases h <;> rfl
@[simp] theorem State.setHalf_H_shadow (s : State) (x : Idx) (h : Side) (v : Byte) : (s.setHalf x h v).H' = s.H' := by cases x <;> cases h <;> rfl
@[simp] theorem State.setHalf_L_shadow (s : State) (x : Idx) (h : Side) (v : Byte) : (s.setHalf x h v).L' = s.L' := by cases x <;> cases h <;> rfl
@[simp] theorem State.setHalf_SP (s : State) (x : Idx) (h : Side) (v : Byte) : (s.setHalf x h v).SP = s.SP := by cases x <;> cases h <;> rfl
@[simp] theorem State.setHalf_PC (s : State) (x : Idx) (h : Side) (v : Byte) : (s.setHalf x h v).PC = s.PC := by cases x <;> cases h <;> rfl
@[simp] theorem State.setHalf_I (s : State) (x : Idx) (h : Side) (v : Byte) : (s.setHalf x h v).I = s.I := by cases x <;> cases h <;> rfl
@[simp] theorem State.setHalf_R (s : State) (x : Idx) (h : Side) (v : Byte) : (s.setHalf x h v).R = s.R := by cases x <;> cases h <;> rfl
@[simp] theorem State.setHalf_IFF1 (s : State) (x : Idx) (h : Side) (v : Byte) : (s.setHalf x h v).IFF1 = s.IFF1 := by cases x <;> cases h <;> rfl
@[simp] theorem State.setHalf_IFF2 (s : State) (x : Idx) (h : Side) (v : Byte) : (s.setHalf x h v).IFF2 = s.IFF2 := by cases x <;> cases h <;> rfl
@[simp] theorem State.setHalf_IM (s : State) (x : Idx) (h : Side) (v : Byte) : (s.setHalf x h v).IM = s.IM := by cases x <;> cases h <;> rfl
@[simp] theorem State.setHalf_Halted (s : State) (x : Idx) (h : Side) (v : Byte) : (s.setHalf x h v).Halted = s.Halted := by cases x <;> cases h <;> rfl
@[simp] theorem State.setHalf_eiPending (s : State) (x : Idx) (h : Side) (v : Byte) : (s.setHalf x h v).eiPending = s.eiPending := by cases x <;> cases h <;> rfl
@[simp] theorem State.setHalf_memDevice (s : State) (x : Idx) (h : Side) (v : Byte) : (s.setHalf x h v).memDevice = s.memDevice := by cases x <;> cases h <;> rfl
@[simp] theorem State.setHalf_mem (s : State) (x : Idx) (h : Side) (v : Byte) : (s.setHalf x h v).mem = s.mem := by cases x <;> cases h <;> rfl
@[simp] theorem State.setHalf_memAnswers (s : State) (x : Idx) (h : Side) (v : Byte) : (s.setHalf x h v).memAnswers = s.memAnswers := by cases x <;> cases h <;> rfl
@[simp] theorem State.setHalf_portAnswers (s : State) (x : Idx) (h : Side) (v : Byte) : (s.setHalf x h v).portAnswers = s.portAnswers := by cases x <;> cases h <;> rfl
@[simp] theorem State.setHalf_draws (s : State) (x : Idx) (h : Side) (v : Byte) : (s.setHalf x h v).draws = s.draws := by cases x <;> cases h <;> rfl
@[simp] theorem State.setHalf_accesses (s : State) (x : Idx) (h : Side) (v : Byte) : (s.setHalf x h v).accesses = s.accesses := by cases x <;> cases h <;> rfl
@[simp] theorem State.setHalf_report (s : State) (x : Idx) (h : Side) (v : Byte) : (s.setHalf x h v).report = s.report := by cases x <;> cases h <;> rfl
@[simp] theorem State.setHalf_schedule (s : State) (x : Idx) (h : Side) (v : Byte) : (s.setHalf x h v).schedule = s.schedule := by cases x <;> cases h <;> rfl

/-! ### A word pushed -/

@[simp] theorem State.push16_A (s : State) (v : Word) : (s.push16 v).A = s.A := rfl
@[simp] theorem State.push16_B (s : State) (v : Word) : (s.push16 v).B = s.B := rfl
@[simp] theorem State.push16_C (s : State) (v : Word) : (s.push16 v).C = s.C := rfl
@[simp] theorem State.push16_D (s : State) (v : Word) : (s.push16 v).D = s.D := rfl
@[simp] theorem State.push16_E (s : State) (v : Word) : (s.push16 v).E = s.E := rfl
@[simp] theorem State.push16_H (s : State) (v : Word) : (s.push16 v).H = s.H := rfl
@[simp] theorem State.push16_L (s : State) (v : Word) : (s.push16 v).L = s.L := rfl
@[simp] theorem State.push16_F (s : State) (v : Word) : (s.push16 v).F = s.F := rfl
@[simp] theorem State.push16_A_shadow (s : State) (v : Word) : (s.push16 v).A' = s.A' := rfl
@[simp] theorem State.push16_F_shadow (s : State) (v : Word) : (s.push16 v).F' = s.F' := rfl
@[simp] theorem State.push16_B_shadow (s : State) (v : Word) : (s.push16 v).B' = s.B' := rfl
@[simp] theorem State.push16_C_shadow (s : State) (v : Word) : (s.push16 v).C' = s.C' := rfl
@[simp] theorem State.push16_D_shadow (s : State) (v : Word) : (s.push16 v).D' = s.D' := rfl
@[simp] theorem State.push16_E_shadow (s : State) (v : Word) : (s.push16 v).E' = s.E' := rfl
@[simp] theorem State.push16_H_shadow (s : State) (v : Word) : (s.push16 v).H' = s.H' := rfl
@[simp] theorem State.push16_L_shadow (s : State) (v : Word) : (s.push16 v).L' = s.L' := rfl
@[simp] theorem State.push16_IX (s : State) (v : Word) : (s.push16 v).IX = s.IX := rfl
@[simp] theorem State.push16_IY (s : State) (v : Word) : (s.push16 v).IY = s.IY := rfl
@[simp] theorem State.push16_PC (s : State) (v : Word) : (s.push16 v).PC = s.PC := rfl
@[simp] theorem State.push16_I (s : State) (v : Word) : (s.push16 v).I = s.I := rfl
@[simp] theorem State.push16_R (s : State) (v : Word) : (s.push16 v).R = s.R := rfl
@[simp] theorem State.push16_IFF1 (s : State) (v : Word) : (s.push16 v).IFF1 = s.IFF1 := rfl
@[simp] theorem State.push16_IFF2 (s : State) (v : Word) : (s.push16 v).IFF2 = s.IFF2 := rfl
@[simp] theorem State.push16_IM (s : State) (v : Word) : (s.push16 v).IM = s.IM := rfl
@[simp] theorem State.push16_Halted (s : State) (v : Word) : (s.push16 v).Halted = s.Halted := rfl
@[simp] theorem State.push16_eiPending (s : State) (v : Word) : (s.push16 v).eiPending = s.eiPending := rfl
@[simp] theorem State.push16_memDevice (s : State) (v : Word) : (s.push16 v).memDevice = s.memDevice := rfl
@[simp] theorem State.push16_memAnswers (s : State) (v : Word) : (s.push16 v).memAnswers = s.memAnswers := rfl
@[simp] theorem State.push16_portAnswers (s : State) (v : Word) : (s.push16 v).portAnswers = s.portAnswers := rfl
@[simp] theorem State.push16_draws (s : State) (v : Word) : (s.push16 v).draws = s.draws := rfl
@[simp] theorem State.push16_report (s : State) (v : Word) : (s.push16 v).report = s.report := rfl
@[simp] theorem State.push16_schedule (s : State) (v : Word) : (s.push16 v).schedule = s.schedule := rfl

/-! ### A word popped -/

@[simp] theorem State.pop16_A (s : State)  : (s.pop16.2).A = s.A := rfl
@[simp] theorem State.pop16_B (s : State)  : (s.pop16.2).B = s.B := rfl
@[simp] theorem State.pop16_C (s : State)  : (s.pop16.2).C = s.C := rfl
@[simp] theorem State.pop16_D (s : State)  : (s.pop16.2).D = s.D := rfl
@[simp] theorem State.pop16_E (s : State)  : (s.pop16.2).E = s.E := rfl
@[simp] theorem State.pop16_H (s : State)  : (s.pop16.2).H = s.H := rfl
@[simp] theorem State.pop16_L (s : State)  : (s.pop16.2).L = s.L := rfl
@[simp] theorem State.pop16_F (s : State)  : (s.pop16.2).F = s.F := rfl
@[simp] theorem State.pop16_A_shadow (s : State)  : (s.pop16.2).A' = s.A' := rfl
@[simp] theorem State.pop16_F_shadow (s : State)  : (s.pop16.2).F' = s.F' := rfl
@[simp] theorem State.pop16_B_shadow (s : State)  : (s.pop16.2).B' = s.B' := rfl
@[simp] theorem State.pop16_C_shadow (s : State)  : (s.pop16.2).C' = s.C' := rfl
@[simp] theorem State.pop16_D_shadow (s : State)  : (s.pop16.2).D' = s.D' := rfl
@[simp] theorem State.pop16_E_shadow (s : State)  : (s.pop16.2).E' = s.E' := rfl
@[simp] theorem State.pop16_H_shadow (s : State)  : (s.pop16.2).H' = s.H' := rfl
@[simp] theorem State.pop16_L_shadow (s : State)  : (s.pop16.2).L' = s.L' := rfl
@[simp] theorem State.pop16_IX (s : State)  : (s.pop16.2).IX = s.IX := rfl
@[simp] theorem State.pop16_IY (s : State)  : (s.pop16.2).IY = s.IY := rfl
@[simp] theorem State.pop16_PC (s : State)  : (s.pop16.2).PC = s.PC := rfl
@[simp] theorem State.pop16_I (s : State)  : (s.pop16.2).I = s.I := rfl
@[simp] theorem State.pop16_R (s : State)  : (s.pop16.2).R = s.R := rfl
@[simp] theorem State.pop16_IFF1 (s : State)  : (s.pop16.2).IFF1 = s.IFF1 := rfl
@[simp] theorem State.pop16_IFF2 (s : State)  : (s.pop16.2).IFF2 = s.IFF2 := rfl
@[simp] theorem State.pop16_IM (s : State)  : (s.pop16.2).IM = s.IM := rfl
@[simp] theorem State.pop16_Halted (s : State)  : (s.pop16.2).Halted = s.Halted := rfl
@[simp] theorem State.pop16_eiPending (s : State)  : (s.pop16.2).eiPending = s.eiPending := rfl
@[simp] theorem State.pop16_memDevice (s : State)  : (s.pop16.2).memDevice = s.memDevice := rfl
@[simp] theorem State.pop16_mem (s : State)  : (s.pop16.2).mem = s.mem := rfl
@[simp] theorem State.pop16_portAnswers (s : State)  : (s.pop16.2).portAnswers = s.portAnswers := rfl
@[simp] theorem State.pop16_report (s : State)  : (s.pop16.2).report = s.report := rfl
@[simp] theorem State.pop16_schedule (s : State)  : (s.pop16.2).schedule = s.schedule := rfl

/-! ### An error reported -/

@[simp] theorem State.raise_A (s : State) (f : Fault) : (s.raise f).A = s.A := rfl
@[simp] theorem State.raise_B (s : State) (f : Fault) : (s.raise f).B = s.B := rfl
@[simp] theorem State.raise_C (s : State) (f : Fault) : (s.raise f).C = s.C := rfl
@[simp] theorem State.raise_D (s : State) (f : Fault) : (s.raise f).D = s.D := rfl
@[simp] theorem State.raise_E (s : State) (f : Fault) : (s.raise f).E = s.E := rfl
@[simp] theorem State.raise_H (s : State) (f : Fault) : (s.raise f).H = s.H := rfl
@[simp] theorem State.raise_L (s : State) (f : Fault) : (s.raise f).L = s.L := rfl
@[simp] theorem State.raise_F (s : State) (f : Fault) : (s.raise f).F = s.F := rfl
@[simp] theorem State.raise_A_shadow (s : State) (f : Fault) : (s.raise f).A' = s.A' := rfl
@[simp] theorem State.raise_F_shadow (s : State) (f : Fault) : (s.raise f).F' = s.F' := rfl
@[simp] theorem State.raise_B_shadow (s : State) (f : Fault) : (s.raise f).B' = s.B' := rfl
@[simp] theorem State.raise_C_shadow (s : State) (f : Fault) : (s.raise f).C' = s.C' := rfl
@[simp] theorem State.raise_D_shadow (s : State) (f : Fault) : (s.raise f).D' = s.D' := rfl
@[simp] theorem State.raise_E_shadow (s : State) (f : Fault) : (s.raise f).E' = s.E' := rfl
@[simp] theorem State.raise_H_shadow (s : State) (f : Fault) : (s.raise f).H' = s.H' := rfl
@[simp] theorem State.raise_L_shadow (s : State) (f : Fault) : (s.raise f).L' = s.L' := rfl
@[simp] theorem State.raise_IX (s : State) (f : Fault) : (s.raise f).IX = s.IX := rfl
@[simp] theorem State.raise_IY (s : State) (f : Fault) : (s.raise f).IY = s.IY := rfl
@[simp] theorem State.raise_SP (s : State) (f : Fault) : (s.raise f).SP = s.SP := rfl
@[simp] theorem State.raise_PC (s : State) (f : Fault) : (s.raise f).PC = s.PC := rfl
@[simp] theorem State.raise_I (s : State) (f : Fault) : (s.raise f).I = s.I := rfl
@[simp] theorem State.raise_R (s : State) (f : Fault) : (s.raise f).R = s.R := rfl
@[simp] theorem State.raise_IFF1 (s : State) (f : Fault) : (s.raise f).IFF1 = s.IFF1 := rfl
@[simp] theorem State.raise_IFF2 (s : State) (f : Fault) : (s.raise f).IFF2 = s.IFF2 := rfl
@[simp] theorem State.raise_IM (s : State) (f : Fault) : (s.raise f).IM = s.IM := rfl
@[simp] theorem State.raise_Halted (s : State) (f : Fault) : (s.raise f).Halted = s.Halted := rfl
@[simp] theorem State.raise_eiPending (s : State) (f : Fault) : (s.raise f).eiPending = s.eiPending := rfl
@[simp] theorem State.raise_memDevice (s : State) (f : Fault) : (s.raise f).memDevice = s.memDevice := rfl
@[simp] theorem State.raise_mem (s : State) (f : Fault) : (s.raise f).mem = s.mem := rfl
@[simp] theorem State.raise_memAnswers (s : State) (f : Fault) : (s.raise f).memAnswers = s.memAnswers := rfl
@[simp] theorem State.raise_portAnswers (s : State) (f : Fault) : (s.raise f).portAnswers = s.portAnswers := rfl
@[simp] theorem State.raise_draws (s : State) (f : Fault) : (s.raise f).draws = s.draws := rfl
@[simp] theorem State.raise_accesses (s : State) (f : Fault) : (s.raise f).accesses = s.accesses := rfl
@[simp] theorem State.raise_schedule (s : State) (f : Fault) : (s.raise f).schedule = s.schedule := rfl

@[simp] theorem State.raise_report (s : State) (f : Fault) : (s.raise f).report = some f := rfl

/-! ### A byte put in memory by the host -/

@[simp] theorem State.poke_A (s : State) (a : Word) (v : Byte) : (s.poke a v).A = s.A := rfl
@[simp] theorem State.poke_B (s : State) (a : Word) (v : Byte) : (s.poke a v).B = s.B := rfl
@[simp] theorem State.poke_C (s : State) (a : Word) (v : Byte) : (s.poke a v).C = s.C := rfl
@[simp] theorem State.poke_D (s : State) (a : Word) (v : Byte) : (s.poke a v).D = s.D := rfl
@[simp] theorem State.poke_E (s : State) (a : Word) (v : Byte) : (s.poke a v).E = s.E := rfl
@[simp] theorem State.poke_H (s : State) (a : Word) (v : Byte) : (s.poke a v).H = s.H := rfl
@[simp] theorem State.poke_L (s : State) (a : Word) (v : Byte) : (s.poke a v).L = s.L := rfl
@[simp] theorem State.poke_F (s : State) (a : Word) (v : Byte) : (s.poke a v).F = s.F := rfl
@[simp] theorem State.poke_A_shadow (s : State) (a : Word) (v : Byte) : (s.poke a v).A' = s.A' := rfl
@[simp] theorem State.poke_F_shadow (s : State) (a : Word) (v : Byte) : (s.poke a v).F' = s.F' := rfl
@[simp] theorem State.poke_B_shadow (s : State) (a : Word) (v : Byte) : (s.poke a v).B' = s.B' := rfl
@[simp] theorem State.poke_C_shadow (s : State) (a : Word) (v : Byte) : (s.poke a v).C' = s.C' := rfl
@[simp] theorem State.poke_D_shadow (s : State) (a : Word) (v : Byte) : (s.poke a v).D' = s.D' := rfl
@[simp] theorem State.poke_E_shadow (s : State) (a : Word) (v : Byte) : (s.poke a v).E' = s.E' := rfl
@[simp] theorem State.poke_H_shadow (s : State) (a : Word) (v : Byte) : (s.poke a v).H' = s.H' := rfl
@[simp] theorem State.poke_L_shadow (s : State) (a : Word) (v : Byte) : (s.poke a v).L' = s.L' := rfl
@[simp] theorem State.poke_IX (s : State) (a : Word) (v : Byte) : (s.poke a v).IX = s.IX := rfl
@[simp] theorem State.poke_IY (s : State) (a : Word) (v : Byte) : (s.poke a v).IY = s.IY := rfl
@[simp] theorem State.poke_SP (s : State) (a : Word) (v : Byte) : (s.poke a v).SP = s.SP := rfl
@[simp] theorem State.poke_PC (s : State) (a : Word) (v : Byte) : (s.poke a v).PC = s.PC := rfl
@[simp] theorem State.poke_I (s : State) (a : Word) (v : Byte) : (s.poke a v).I = s.I := rfl
@[simp] theorem State.poke_R (s : State) (a : Word) (v : Byte) : (s.poke a v).R = s.R := rfl
@[simp] theorem State.poke_IFF1 (s : State) (a : Word) (v : Byte) : (s.poke a v).IFF1 = s.IFF1 := rfl
@[simp] theorem State.poke_IFF2 (s : State) (a : Word) (v : Byte) : (s.poke a v).IFF2 = s.IFF2 := rfl
@[simp] theorem State.poke_IM (s : State) (a : Word) (v : Byte) : (s.poke a v).IM = s.IM := rfl
@[simp] theorem State.poke_Halted (s : State) (a : Word) (v : Byte) : (s.poke a v).Halted = s.Halted := rfl
@[simp] theorem State.poke_eiPending (s : State) (a : Word) (v : Byte) : (s.poke a v).eiPending = s.eiPending := rfl
@[simp] theorem State.poke_memDevice (s : State) (a : Word) (v : Byte) : (s.poke a v).memDevice = s.memDevice := rfl
@[simp] theorem State.poke_memAnswers (s : State) (a : Word) (v : Byte) : (s.poke a v).memAnswers = s.memAnswers := rfl
@[simp] theorem State.poke_portAnswers (s : State) (a : Word) (v : Byte) : (s.poke a v).portAnswers = s.portAnswers := rfl
@[simp] theorem State.poke_draws (s : State) (a : Word) (v : Byte) : (s.poke a v).draws = s.draws := rfl
@[simp] theorem State.poke_accesses (s : State) (a : Word) (v : Byte) : (s.poke a v).accesses = s.accesses := rfl
@[simp] theorem State.poke_report (s : State) (a : Word) (v : Byte) : (s.poke a v).report = s.report := rfl
@[simp] theorem State.poke_schedule (s : State) (a : Word) (v : Byte) : (s.poke a v).schedule = s.schedule := rfl

end Sys2Proof.Machine
end

