-- ==== Sys2Proof/Laws/Ops.lean ====
section
/-! SUPPORT. The shared operations, each said once: what a byte read finds after each of them, their closed forms, that each keeps
memory in canonical form, and which requests each issues. -/

namespace Sys2Proof.Machine

open Sys2Proof.Safety

/-! ## The contents of the memory device after an operation -/

@[simp] theorem MemDevice.keeps_plainRam (a : Word) : MemDevice.plainRam.keeps a = true := rfl

@[simp] theorem MemDevice.keeps_external (a : Word) : MemDevice.external.keeps a = false := rfl

@[simp] theorem MemDevice.write_plainRam (m : Memory) (a : Word) (v : Byte) :
    MemDevice.plainRam.write m a v = m.write a.toNat v := rfl

/-- An external device has no contents in the model (20_memory.md R63). -/
@[simp] theorem MemDevice.write_external (m : Memory) (a : Word) (v : Byte) : MemDevice.external.write m a v = m := rfl

theorem MemDevice.wf_write (d : MemDevice) {m : Memory} (a : Word) (v : Byte) (h : m.wf = true) : (d.write m a v).wf = true := by
  unfold MemDevice.write
  split
  · exact Memory.wf_write v (Word.toNat_lt a) h
  · exact h

/-- A byte kept is there afterwards; every other address is as before (20_memory.md R71). -/
theorem MemDevice.read_write (d : MemDevice) (m : Memory) (a b : Word) (v : Byte) :
    (d.write m a v).read b.toNat = if b = a ∧ d.keeps a = true then v else m.read b.toNat := by
  unfold MemDevice.write
  by_cases hk : d.keeps a = true
  · rw [if_pos hk, Memory.read_write]
    by_cases h : b = a
    · simp [h, hk]
    · have : b.toNat ≠ a.toNat := fun e => h (BitVec.eq_of_toNat_eq e)
      simp [h, this]
  · rw [if_neg hk, if_neg (fun h => hk h.2)]

/-- Operations that leave `mem` alone leave every byte alone. -/
theorem State.stored_congr {s t : State} (h : t.mem = s.mem) (a : Word) : t.stored a = s.stored a := by
  simp [State.stored, h]

@[simp] theorem State.stored_log (s : State) (x : Access) (a : Word) : (s.log x).stored a = s.stored a := rfl

@[simp] theorem State.stored_memRead (s : State) (a b : Word) : (s.memRead a).2.stored b = s.stored b := rfl

@[simp] theorem State.stored_memReadWord (s : State) (a b : Word) : (s.memReadWord a).2.stored b = s.stored b := rfl

@[simp] theorem State.stored_ioRead (s : State) (p b : Word) : (s.ioRead p).2.stored b = s.stored b := rfl

@[simp] theorem State.stored_ioWrite (s : State) (p : Word) (v : Byte) (b : Word) : (s.ioWrite p v).stored b = s.stored b := rfl

@[simp] theorem State.stored_set8 (s : State) (r : Reg8) (v : Byte) (b : Word) : (s.set8 r v).stored b = s.stored b := by
  cases r <;> rfl

@[simp] theorem State.stored_set16 (s : State) (r : Reg16) (v : Word) (b : Word) : (s.set16 r v).stored b = s.stored b := by
  cases r <;> rfl

@[simp] theorem State.stored_setHalf (s : State) (x : Idx) (h : Side) (v : Byte) (b : Word) :
    (s.setHalf x h v).stored b = s.stored b := by
  cases x <;> cases h <;> rfl

@[simp] theorem State.stored_pop16 (s : State) (b : Word) : s.pop16.2.stored b = s.stored b := rfl

theorem State.stored_memWrite (s : State) (a : Word) (v : Byte) (b : Word) :
    (s.memWrite a v).stored b = if b = a ∧ s.memDevice.keeps a = true then v else s.stored b :=
  s.memDevice.read_write s.mem a b v

theorem State.stored_poke (s : State) (a : Word) (v : Byte) (b : Word) :
    (s.poke a v).stored b = if b = a then v else s.stored b := by
  have := MemDevice.read_write .plainRam s.mem a b v
  simpa [State.stored, State.poke] using this

/-! ## What the memory device answers after an operation -/

/-- An answer depends on the device, its contents, the answers scripted and the draws made. -/
theorem State.memAnswer_congr {s t : State} (hd : t.memDevice = s.memDevice) (hm : t.mem = s.mem)
    (ha : t.memAnswers = s.memAnswers) (hk : t.draws = s.draws) (k : Nat) (a : Word) : t.memAnswer k a = s.memAnswer k a := by
  simp only [State.memAnswer, State.stored, hd, hm, ha, hk]

/-- `PLAIN_RAM` answers its contents (20_memory.md R77). -/
theorem State.memAnswer_plainRam {s : State} (h : s.memDevice = .plainRam) (k : Nat) (a : Word) :
    s.memAnswer k a = s.stored a := by
  simp [State.memAnswer, h]

theorem State.peek_plainRam {s : State} (h : s.memDevice = .plainRam) (a : Word) : s.peek a = s.stored a :=
  State.memAnswer_plainRam h 0 a

/-- A read answered: the answers that were to come are one read nearer. -/
theorem State.memAnswer_drop {s t : State} (n : Nat) (hd : t.memDevice = s.memDevice) (hm : t.mem = s.mem)
    (ha : t.memAnswers = s.memAnswers.drop (s.memDevice.draws n)) (hk : t.draws = s.draws + s.memDevice.draws n)
    (k : Nat) (a : Word) : t.memAnswer k a = s.memAnswer (n + k) a := by
  unfold State.memAnswer State.stored
  rw [hd, hm, ha, hk]
  cases s.memDevice with
  | plainRam => rfl
  | protectedRam regions => rfl
  | external => simp only [MemDevice.draws, List.getElem?_drop, Nat.add_assoc]

@[simp] theorem State.memAnswer_memRead (s : State) (a : Word) (k : Nat) (b : Word) :
    (s.memRead a).2.memAnswer k b = s.memAnswer (1 + k) b :=
  State.memAnswer_drop (s := s) (t := (s.memRead a).2) 1 rfl rfl rfl rfl k b

@[simp] theorem State.peek_memRead (s : State) (a b : Word) : (s.memRead a).2.peek b = s.memAnswer 1 b :=
  s.memAnswer_memRead a 0 b

@[simp] theorem State.peek_log (s : State) (x : Access) (a : Word) : (s.log x).peek a = s.peek a := rfl

/-! ## Closed forms -/

theorem MemDevice.draws_one_add_one (d : MemDevice) : d.draws 1 + d.draws 1 = d.draws 2 := by cases d <;> rfl

theorem State.memRead_eq (s : State) (a : Word) :
    s.memRead a = (s.peek a, { s with
      memAnswers := s.memAnswers.drop (s.memDevice.draws 1)
      draws := s.draws + s.memDevice.draws 1
      accesses := s.accesses ++ [.memRead a (s.peek a)] }) := rfl

/-- Two reads in a row: the second answer is the one after the first (20_memory.md R63, R72). -/
theorem State.memRead_memRead_eq (s : State) (a b : Word) :
    (s.memRead a).2.memRead b = (s.memAnswer 1 b, { s with
      memAnswers := s.memAnswers.drop (s.memDevice.draws 2)
      draws := s.draws + s.memDevice.draws 2
      accesses := s.accesses ++ [.memRead a (s.peek a), .memRead b (s.memAnswer 1 b)] }) := by
  rw [State.memRead_eq _ b, State.peek_memRead]
  simp only [State.memRead, List.drop_drop, Nat.add_assoc, MemDevice.draws_one_add_one, List.append_assoc, List.singleton_append]

/-- A word read: low byte first, mod 2^16 (20_memory.md R66, R78). -/
theorem State.memReadWord_eq (s : State) (a : Word) :
    s.memReadWord a = (joinBytes (s.memAnswer 1 (a + 1)) (s.peek a), { s with
      memAnswers := s.memAnswers.drop (s.memDevice.draws 2)
      draws := s.draws + s.memDevice.draws 2
      accesses := s.accesses ++ [.memRead a (s.peek a), .memRead (a + 1) (s.memAnswer 1 (a + 1))] }) := by
  simp only [State.memReadWord, nextAddr, State.memRead_memRead_eq, State.memRead_value]

/-- push16 in one piece (45_load_exchange.md R320). -/
theorem State.push16_eq (s : State) (v : Word) :
    s.push16 v = { s with
      SP := s.SP - 1 - 1
      mem := s.memDevice.write (s.memDevice.write s.mem (s.SP - 1) (hiByte v)) (s.SP - 1 - 1) (loByte v)
      accesses := s.accesses ++ [.memWrite (s.SP - 1) (hiByte v), .memWrite (s.SP - 1 - 1) (loByte v)] } := by
  simp [State.push16, State.memWrite, State.log]

/-- pop16 in one piece (45_load_exchange.md R321). -/
theorem State.pop16_eq (s : State) :
    s.pop16 = (joinBytes (s.memAnswer 1 (s.SP + 1)) (s.peek s.SP), { s with
      SP := s.SP + 1 + 1
      memAnswers := s.memAnswers.drop (s.memDevice.draws 2)
      draws := s.draws + s.memDevice.draws 2
      accesses := s.accesses ++ [.memRead s.SP (s.peek s.SP), .memRead (s.SP + 1) (s.memAnswer 1 (s.SP + 1))] }) := by
  have h : ({ (s.memRead s.SP).2 with SP := s.SP + 1 } : State).peek (s.SP + 1) = s.memAnswer 1 (s.SP + 1) :=
    State.memAnswer_drop (s := s) (t := { (s.memRead s.SP).2 with SP := s.SP + 1 }) 1 rfl rfl rfl rfl 0 _
  simp only [State.pop16, State.memRead_SP]
  rw [State.memRead_eq { (s.memRead s.SP).2 with SP := s.SP + 1 }, h]
  simp only [State.memRead, List.drop_drop, Nat.add_assoc, MemDevice.draws_one_add_one, List.append_assoc, List.singleton_append]

/-- The contents after a push, where the device keeps it. -/
theorem State.stored_push16 {s : State} (h : s.memDevice = .plainRam) (v : Word) (b : Word) :
    (s.push16 v).stored b = if b = s.SP - 1 - 1 then loByte v else if b = s.SP - 1 then hiByte v else s.stored b := by
  rw [State.push16_eq, h]
  show (MemDevice.plainRam.write (MemDevice.plainRam.write s.mem _ _) _ _).read b.toNat = _
  rw [MemDevice.read_write, MemDevice.read_write]
  simp [State.stored]

/-- What a push leaves to pop on `PLAIN_RAM`, SP included. -/
theorem State.pop16_push16 {s : State} (h : s.memDevice = .plainRam) (v : Word) :
    (s.push16 v).pop16.1 = v ∧ (s.push16 v).pop16.2.SP = s.SP := by
  have hsp : (s.push16 v).SP = s.SP - 1 - 1 := rfl
  have hd : (s.push16 v).memDevice = .plainRam := h
  have e1 : s.SP - 1 - 1 + 1 = s.SP - 1 := BitVec.sub_add_cancel _ _
  have e2 : s.SP - 1 + 1 = s.SP := BitVec.sub_add_cancel _ _
  have hne : s.SP - 1 ≠ s.SP - 1 - 1 := by
    intro h
    have := congrArg (fun w : Word => w + 1 + 1 - s.SP) h
    simp at this
  rw [State.pop16_eq, State.peek_plainRam hd, State.memAnswer_plainRam hd]
  constructor
  · rw [hsp, e1, State.stored_push16 h, State.stored_push16 h, if_neg hne, if_pos rfl, if_pos rfl, joinBytes_hi_lo]
  · show (s.push16 v).SP + 1 + 1 = s.SP
    rw [hsp, e1, e2]

/-- This hardware does not count R (10_state.md R34, `R_REFRESH = frozen`). -/
@[simp] theorem refresh_params (k : Nat) (s : State) : refresh Config.params k s = s := rfl

/-- An interrupt entry before it vectors, in one piece: the core wakes, past a HALT, and PC is pushed (60_exceptions.md R423,
R425, R430). -/
theorem interruptEntry_eq (iff1 iff2 : Bool) (s : State) :
    interruptEntry iff1 iff2 s =
      { s with Halted := false, IFF1 := iff1, IFF2 := iff2, PC := if s.Halted then s.PC + 1 else s.PC }.push16
        (if s.Halted then s.PC + 1 else s.PC) := by
  unfold interruptEntry wake
  cases h : s.Halted
  · simp only [Bool.false_eq_true, if_false]
    congr 2
  · simp

/-- A maskable request is discarded where IFF1 is 0 (60_exceptions.md R421). -/
theorem maskableInterrupt_discarded (bus : Byte) {s : State} (h : s.IFF1 = false) :
    maskableInterrupt Config.params bus s = s := by
  unfold maskableInterrupt
  rw [if_pos (by simp [h])]

/-- A maskable request is taken where IFF1 is 1: IFF1 is cleared, IFF2 kept (60_exceptions.md R421, R425). -/
theorem maskableInterrupt_taken (bus : Byte) {s : State} (h : s.IFF1 = true) :
    maskableInterrupt Config.params bus s = maskableVector bus (interruptEntry false s.IFF2 s) := by
  unfold maskableInterrupt
  rw [if_neg (by simp [h, Config.params]), refresh_params]
  simp only [Config.params, Bool.not_false, Bool.true_and]

/-- An NMI keeps both enables (60_exceptions.md R430). -/
theorem nonMaskableInterrupt_eq (s : State) :
    nonMaskableInterrupt Config.params s = { interruptEntry s.IFF1 s.IFF2 s with PC := 0x0066 } := by
  unfold nonMaskableInterrupt
  rw [refresh_params]
  simp only [Config.params, Bool.not_false, Bool.true_and]

/-- The bytes of an instruction read from PC on: besides PC only the record and the answers to come change (30_encoding.md
R93). -/
theorem fetchBytes_eq (n : Nat) (s : State) :
    fetchBytes n s = { s with
      PC := s.PC + BitVec.ofNat 16 n
      memAnswers := s.memAnswers.drop (s.memDevice.draws n)
      draws := s.draws + s.memDevice.draws n
      accesses := s.accesses ++ (List.range n).map (fun k =>
        .memRead (s.PC + BitVec.ofNat 16 k) (s.memAnswer k (s.PC + BitVec.ofNat 16 k))) } := by
  have hdraws (d : MemDevice) (n : Nat) : d.draws 1 + d.draws n = d.draws (n + 1) := by
    cases d <;> simp [MemDevice.draws, Nat.add_comm]
  have hzero (d : MemDevice) : d.draws 0 = 0 := by cases d <;> rfl
  induction n generalizing s with
  | zero => simp [fetchBytes, hzero]
  | succ n ih =>
    have hstep (k : Nat) : s.PC + 1 + BitVec.ofNat 16 k = s.PC + BitVec.ofNat 16 (k + 1) := by
      rw [BitVec.add_assoc]
      congr 1
      apply BitVec.eq_of_toNat_eq
      simp [BitVec.toNat_add, BitVec.toNat_ofNat]
      omega
    have hans (k : Nat) (a : Word) :
        ({ (s.memRead s.PC).2 with PC := s.PC + 1 } : State).memAnswer k a = s.memAnswer (k + 1) a := by
      rw [Nat.add_comm]
      exact State.memAnswer_drop (s := s) (t := { (s.memRead s.PC).2 with PC := s.PC + 1 }) 1 rfl rfl rfl rfl k a
    have hpeek : s.peek s.PC = s.memAnswer 0 s.PC := rfl
    rw [fetchBytes, ih]
    simp only [hans, hstep]
    simp only [State.memRead, hpeek, BitVec.add_zero, List.drop_drop, Nat.add_assoc, hdraws, List.range_succ_eq_map, List.map_cons, List.map_map,
      Function.comp_def, List.append_assoc, List.singleton_append, Nat.succ_eq_add_one]

/-- A step that ends in DecodeError (60_exceptions.md R410): the reads of the bytes it carries were made, the error is reported,
and nothing else changes. -/
theorem decodeError_eq (bytes : List Byte) (s : State) :
    decodeError bytes s = { s with
      memAnswers := s.memAnswers.drop (s.memDevice.draws bytes.length)
      draws := s.draws + s.memDevice.draws bytes.length
      accesses := (List.range bytes.length).map (fun k =>
        .memRead (s.PC + BitVec.ofNat 16 k) (s.memAnswer k (s.PC + BitVec.ofNat 16 k)))
      report := some (.decodeError s.PC bytes) } := by
  simp only [decodeError, fetchBytes_eq, beginEvent, State.raise, List.nil_append]
  rfl

/-! ## The canonical form of memory is kept -/

theorem State.wf_memWrite {s : State} (a : Word) (v : Byte) (h : s.mem.wf = true) : (s.memWrite a v).mem.wf = true :=
  MemDevice.wf_write _ _ _ h

theorem State.wf_memWriteWord {s : State} (a v : Word) (h : s.mem.wf = true) : (s.memWriteWord a v).mem.wf = true :=
  State.wf_memWrite _ _ (State.wf_memWrite _ _ h)

theorem State.wf_push16 {s : State} (v : Word) (h : s.mem.wf = true) : (s.push16 v).mem.wf = true := by
  rw [State.push16_eq]
  exact MemDevice.wf_write _ _ _ (MemDevice.wf_write _ _ _ h)

theorem wf_interruptEntry {s : State} (iff1 iff2 : Bool) (h : s.mem.wf = true) : (interruptEntry iff1 iff2 s).mem.wf = true := by
  rw [interruptEntry_eq]
  exact State.wf_push16 _ h

@[simp] theorem interruptEntry_eiPending (iff1 iff2 : Bool) (s : State) :
    (interruptEntry iff1 iff2 s).eiPending = s.eiPending := by
  rw [interruptEntry_eq, State.push16_eiPending]

/-- Choosing the vector only reads (60_exceptions.md R424). -/
@[simp] theorem maskableVector_mem (bus : Byte) (s : State) : (maskableVector bus s).mem = s.mem := by
  unfold maskableVector
  split <;> rfl

@[simp] theorem maskableVector_memDevice (bus : Byte) (s : State) : (maskableVector bus s).memDevice = s.memDevice := by
  unfold maskableVector
  split <;> rfl

@[simp] theorem maskableVector_eiPending (bus : Byte) (s : State) : (maskableVector bus s).eiPending = s.eiPending := by
  unfold maskableVector
  split <;> rfl

theorem State.wf_poke {s : State} (a : Word) (v : Byte) (h : s.mem.wf = true) : (s.poke a v).mem.wf = true :=
  Memory.wf_write v (Word.toNat_lt a) h

theorem State.wf_pokeList {s : State} (a : Word) (bs : List Byte) (h : s.mem.wf = true) : (s.pokeList a bs).mem.wf = true := by
  induction bs generalizing s a with
  | nil => exact h
  | cons b bs ih => exact ih _ (State.wf_poke a b h)

theorem wf_deliver (d : MemDevice) (xs : List Access) {m : Memory} (h : m.wf = true) : (deliver d xs m).wf = true := by
  induction xs generalizing m with
  | nil => exact h
  | cons x xs ih =>
    cases x with
    | memWrite a v => exact ih (MemDevice.wf_write d a v h)
    | memRead _ _ => exact ih h
    | ioRead _ _ => exact ih h
    | ioWrite _ _ => exact ih h
    | dataBus _ => exact ih h

/-! ## Requests -/

theorem deliver_append (d : MemDevice) (xs ys : List Access) (m : Memory) :
    deliver d (xs ++ ys) m = deliver d ys (deliver d xs m) := by
  induction xs generalizing m with
  | nil => rfl
  | cons x xs ih => cases x <;> exact ih _

/-- From `s` to `t` exactly the requests `xs` were issued, they account for memory, and the memory device is the same. -/
def Issued (s : State) (xs : List Access) (t : State) : Prop :=
  t.accesses = s.accesses ++ xs ∧ t.mem = deliver s.memDevice xs s.mem ∧ t.memDevice = s.memDevice

theorem Issued.none {s t : State} (ha : t.accesses = s.accesses) (hm : t.mem = s.mem) (hd : t.memDevice = s.memDevice) :
    Issued s [] t := ⟨by simp [ha], hm, hd⟩

theorem Issued.trans {s t u : State} {xs ys : List Access} (h : Issued s xs t) (k : Issued t ys u) : Issued s (xs ++ ys) u :=
  ⟨by rw [k.1, h.1, List.append_assoc], by rw [k.2.1, h.2.1, h.2.2, deliver_append], by rw [k.2.2, h.2.2]⟩

/-- A change of other fields issues nothing. -/
theorem Issued.then {s t u : State} {xs : List Access} (h : Issued s xs t) (ha : u.accesses = t.accesses)
    (hm : u.mem = t.mem) (hd : u.memDevice = t.memDevice) : Issued s xs u :=
  ⟨by rw [ha, h.1], by rw [hm, h.2.1], by rw [hd, h.2.2]⟩

theorem Issued.memRead (s : State) (a : Word) : Issued s [.memRead a (s.peek a)] (s.memRead a).2 := ⟨rfl, rfl, rfl⟩

theorem Issued.memWrite (s : State) (a : Word) (v : Byte) : Issued s [.memWrite a v] (s.memWrite a v) := ⟨rfl, rfl, rfl⟩

theorem Issued.ioRead (s : State) (p : Word) : Issued s [.ioRead p (s.portAnswer p)] (s.ioRead p).2 := ⟨rfl, rfl, rfl⟩

theorem Issued.ioWrite (s : State) (p : Word) (v : Byte) : Issued s [.ioWrite p v] (s.ioWrite p v) := ⟨rfl, rfl, rfl⟩

theorem Issued.memReadWord (s : State) (a : Word) :
    Issued s [.memRead a (s.peek a), .memRead (a + 1) (s.memAnswer 1 (a + 1))] (s.memReadWord a).2 := by
  rw [State.memReadWord_eq]
  exact ⟨rfl, rfl, rfl⟩

theorem Issued.memWriteWord (s : State) (a v : Word) :
    Issued s [.memWrite a (loByte v), .memWrite (a + 1) (hiByte v)] (s.memWriteWord a v) :=
  (Issued.memWrite s a _).trans (Issued.memWrite _ _ _)

theorem Issued.push16 (s : State) (v : Word) :
    Issued s [.memWrite (s.SP - 1) (hiByte v), .memWrite (s.SP - 1 - 1) (loByte v)] (s.push16 v) := by
  rw [State.push16_eq]
  exact ⟨rfl, rfl, rfl⟩

theorem Issued.pop16 (s : State) :
    Issued s [.memRead s.SP (s.peek s.SP), .memRead (s.SP + 1) (s.memAnswer 1 (s.SP + 1))] s.pop16.2 := by
  rw [State.pop16_eq]
  exact ⟨rfl, rfl, rfl⟩

/-- An interrupt entry issues the two writes of its push (60_exceptions.md R425, R430). -/
theorem Issued.interruptEntry (iff1 iff2 : Bool) (s : State) : ∃ xs, Issued s xs (interruptEntry iff1 iff2 s) ∧ xs.length = 2 := by
  rw [interruptEntry_eq]
  generalize (if s.Halted then s.PC + 1 else s.PC) = back
  exact ⟨_, (Issued.none (s := s)
    (t := { s with Halted := false, IFF1 := iff1, IFF2 := iff2, PC := back }) rfl rfl rfl).trans (Issued.push16 _ back), rfl⟩

/-- Choosing the vector issues nothing in modes 0 and 1, one data bus request and two reads in mode 2 (60_exceptions.md R424). -/
theorem Issued.maskableVector (bus : Byte) (s : State) :
    ∃ xs, Issued s xs (maskableVector bus s) ∧ xs.length = if s.IM = .im2 then 3 else 0 := by
  unfold Machine.maskableVector
  split
  · next h => exact ⟨[], Issued.none rfl rfl rfl, by simp [h]⟩
  · next h => exact ⟨[], Issued.none rfl rfl rfl, by simp [h]⟩
  · next h =>
    refine ⟨_, Issued.then (t := ((s.log (.dataBus bus)).memReadWord (joinBytes s.I bus)).2)
      (Issued.trans (t := s.log (.dataBus bus)) (xs := [.dataBus bus]) ⟨rfl, rfl, rfl⟩ (Issued.memReadWord _ _)) rfl rfl rfl, ?_⟩
    simp [h]

/-- The requests of reading an operand: one read where it is in memory (40_alu8.md R140). -/
theorem Issued.readPlace (s : State) (p : Place8) : ∃ xs, Issued s xs (s.readPlace p).2 ∧ xs.length ≤ 1 := by
  cases p with
  | reg r => exact ⟨[], Issued.none rfl rfl rfl, by simp⟩
  | half x h => exact ⟨[], Issued.none rfl rfl rfl, by simp⟩
  | mem ea => exact ⟨_, Issued.memRead s _, by simp⟩

theorem Issued.readSrc (s : State) (src : Src8) : ∃ xs, Issued s xs (s.readSrc src).2 ∧ xs.length ≤ 1 := by
  cases src with
  | place p => exact Issued.readPlace s p
  | imm n => exact ⟨[], Issued.none rfl rfl rfl, by simp⟩

/-- The requests of writing an operand: one write where it is in memory. -/
theorem Issued.writePlace (s : State) (p : Place8) (v : Byte) : ∃ xs, Issued s xs (s.writePlace p v) ∧ xs.length ≤ 1 := by
  cases p with
  | reg r => exact ⟨[], Issued.none (s.set8_accesses r v) (s.set8_mem r v) (s.set8_memDevice r v), by simp⟩
  | half x h => exact ⟨[], Issued.none (s.setHalf_accesses x h v) (s.setHalf_mem x h v) (s.setHalf_memDevice x h v), by simp⟩
  | mem ea => exact ⟨_, Issued.memWrite s _ v, by simp⟩

/-- A read and a write of the same place (20_memory.md R68). -/
theorem Issued.modify (s : State) (p : Place8) (f : Byte → Flags → Byte × Flags) :
    ∃ xs, Issued s xs (s.modify p f) ∧ xs.length ≤ 2 := by
  obtain ⟨xs, hx, lx⟩ := Issued.readPlace s p
  obtain ⟨ys, hy, ly⟩ := Issued.writePlace { (s.readPlace p).2 with F := (f (s.readPlace p).1 s.F).2 } p
    (f (s.readPlace p).1 s.F).1
  refine ⟨xs ++ ys, (hx.then rfl rfl rfl).trans hy, ?_⟩
  rw [List.length_append]
  omega

end Sys2Proof.Machine
end

