-- ==== Sys2Proof/Laws/Meanings.lean ====
section
/-! SUPPORT. The shared operations behind the meanings, each in one piece: everything it changes, as one update of the state. A
proof about an instruction rewrites with `exec_form` and then with the lemma of its operation. -/

namespace Sys2Proof.Machine

/-! ## Bytes replaced in place -/

theorem State.modify_reg (s : State) (r : Reg8) (f : Byte → Flags → Byte × Flags) :
    s.modify (.reg r) f = ({ s with F := (f (s.get8 r) s.F).2 } : State).set8 r (f (s.get8 r) s.F).1 := rfl

theorem State.modify_half (s : State) (x : Idx) (h : Side) (f : Byte → Flags → Byte × Flags) :
    s.modify (.half x h) f = ({ s with F := (f (s.getHalf x h) s.F).2 } : State).setHalf x h (f (s.getHalf x h) s.F).1 := rfl

/-- One read, then one write of the same address (20_memory.md R68). -/
theorem State.modify_mem (s : State) (ea : Ea) (f : Byte → Flags → Byte × Flags) :
    s.modify (.mem ea) f = { s with
      F := (f (s.peek (s.addr ea)) s.F).2
      mem := s.memDevice.write s.mem (s.addr ea) (f (s.peek (s.addr ea)) s.F).1
      memAnswers := s.memAnswers.drop (s.memDevice.draws 1)
      draws := s.draws + s.memDevice.draws 1
      accesses := s.accesses ++ [.memRead (s.addr ea) (s.peek (s.addr ea)),
        .memWrite (s.addr ea) (f (s.peek (s.addr ea)) s.F).1] } := by
  have haddr (f' : Flags) : ({ (s.memRead (s.addr ea)).2 with F := f' } : State).addr ea = s.addr ea := by
    cases ea with
    | idx x d => cases x <;> rfl
    | HL => rfl
    | BC => rfl
    | DE => rfl
    | abs nn => rfl
  simp only [State.modify, State.readPlace, State.writePlace, State.memWrite, haddr]
  simp only [State.memRead, State.log, List.append_assoc, List.singleton_append]

/-- RLD (42_rotate_shift.md R215). -/
theorem opRld_eq (s : State) :
    opRld s = { s with
      A := (s.A &&& 0xF0) ||| (s.peek (s.get16 .HL) >>> 4)
      F := byteFlags ((s.A &&& 0xF0) ||| (s.peek (s.get16 .HL) >>> 4))
        (parity ((s.A &&& 0xF0) ||| (s.peek (s.get16 .HL) >>> 4))) s.F
      mem := s.memDevice.write s.mem (s.get16 .HL) ((s.peek (s.get16 .HL) <<< 4) ||| (s.A &&& 0x0F))
      memAnswers := s.memAnswers.drop (s.memDevice.draws 1)
      draws := s.draws + s.memDevice.draws 1
      accesses := s.accesses ++ [.memRead (s.get16 .HL) (s.peek (s.get16 .HL)),
        .memWrite (s.get16 .HL) ((s.peek (s.get16 .HL) <<< 4) ||| (s.A &&& 0x0F))] } := by
  simp only [opRld, State.memRead, State.memWrite, State.log, List.append_assoc, List.singleton_append]

/-- RRD (42_rotate_shift.md R216). -/
theorem opRrd_eq (s : State) :
    opRrd s = { s with
      A := (s.A &&& 0xF0) ||| (s.peek (s.get16 .HL) &&& 0x0F)
      F := byteFlags ((s.A &&& 0xF0) ||| (s.peek (s.get16 .HL) &&& 0x0F))
        (parity ((s.A &&& 0xF0) ||| (s.peek (s.get16 .HL) &&& 0x0F))) s.F
      mem := s.memDevice.write s.mem (s.get16 .HL) ((s.A <<< 4) ||| (s.peek (s.get16 .HL) >>> 4))
      memAnswers := s.memAnswers.drop (s.memDevice.draws 1)
      draws := s.draws + s.memDevice.draws 1
      accesses := s.accesses ++ [.memRead (s.get16 .HL) (s.peek (s.get16 .HL)),
        .memWrite (s.get16 .HL) ((s.A <<< 4) ||| (s.peek (s.get16 .HL) >>> 4))] } := by
  simp only [opRrd, State.memRead, State.memWrite, State.log, List.append_assoc, List.singleton_append]

/-! ## Block elements -/

/-- PC after `repeat_tail` (44_block.md R250); nothing else changes. -/
theorem repeatTail_eq (c : Bool) (s : State) : repeatTail c s = { s with PC := if c then s.PC - 2 else s.PC } := by
  unfold repeatTail
  cases c <;> rfl

/-- LDI and LDD (44_block.md R251, R252). -/
theorem opBlockLd_eq (dir : BlockDir) (s : State) :
    opBlockLd dir s = { s with
      H := hiByte (s.get16 .HL + dirWord dir)
      L := loByte (s.get16 .HL + dirWord dir)
      D := hiByte (s.get16 .DE + dirWord dir)
      E := loByte (s.get16 .DE + dirWord dir)
      B := hiByte (s.get16 .BC - 1)
      C := loByte (s.get16 .BC - 1)
      F := blockLdFlags (s.peek (s.get16 .HL)) s.A (s.get16 .BC - 1) s.F
      mem := s.memDevice.write s.mem (s.get16 .DE) (s.peek (s.get16 .HL))
      memAnswers := s.memAnswers.drop (s.memDevice.draws 1)
      draws := s.draws + s.memDevice.draws 1
      accesses := s.accesses ++ [.memRead (s.get16 .HL) (s.peek (s.get16 .HL)),
        .memWrite (s.get16 .DE) (s.peek (s.get16 .HL))] } := by
  simp only [opBlockLd, State.memRead, State.memWrite, State.log, State.set16, State.get16, List.append_assoc,
    List.singleton_append, joinBytes_hi_lo]

/-- CPI and CPD (44_block.md R256, R257). -/
theorem opBlockCp_eq (dir : BlockDir) (s : State) :
    opBlockCp dir s = { s with
      H := hiByte (s.get16 .HL + dirWord dir)
      L := loByte (s.get16 .HL + dirWord dir)
      B := hiByte (s.get16 .BC - 1)
      C := loByte (s.get16 .BC - 1)
      F := blockCpFlags s.A (s.peek (s.get16 .HL)) (s.get16 .BC - 1) s.F
      memAnswers := s.memAnswers.drop (s.memDevice.draws 1)
      draws := s.draws + s.memDevice.draws 1
      accesses := s.accesses ++ [.memRead (s.get16 .HL) (s.peek (s.get16 .HL))] } := by
  simp only [opBlockCp, State.memRead, State.set16, State.get16, joinBytes_hi_lo]

/-- INI and IND (44_block.md R261, R262). -/
theorem opBlockIn_eq (dir : BlockDir) (s : State) :
    opBlockIn dir s = { s with
      B := s.B - 1
      H := hiByte (s.get16 .HL + dirWord dir)
      L := loByte (s.get16 .HL + dirWord dir)
      F := blockIoFlags (s.portAnswer (s.get16 .BC)) (s.B - 1)
        ((s.portAnswer (s.get16 .BC)).toNat + (s.C + dirByte dir).toNat) s.F
      mem := s.memDevice.write s.mem (s.get16 .HL) (s.portAnswer (s.get16 .BC))
      portAnswers := s.portAnswers.tail
      draws := s.draws + 1
      accesses := s.accesses ++ [.ioRead (s.get16 .BC) (s.portAnswer (s.get16 .BC)),
        .memWrite (s.get16 .HL) (s.portAnswer (s.get16 .BC))] } := by
  simp only [opBlockIn, State.ioRead, State.memWrite, State.log, State.set16, State.set8, State.get16, List.append_assoc,
    List.singleton_append]

/-- OUTI and OUTD (44_block.md R265, R266). -/
theorem opBlockOut_eq (dir : BlockDir) (s : State) :
    opBlockOut dir s = { s with
      B := s.B - 1
      H := hiByte (s.get16 .HL + dirWord dir)
      L := loByte (s.get16 .HL + dirWord dir)
      F := blockIoFlags (s.peek (s.get16 .HL)) (s.B - 1)
        ((s.peek (s.get16 .HL)).toNat + (loByte (s.get16 .HL + dirWord dir)).toNat) s.F
      memAnswers := s.memAnswers.drop (s.memDevice.draws 1)
      draws := s.draws + s.memDevice.draws 1
      accesses := s.accesses ++ [.memRead (s.get16 .HL) (s.peek (s.get16 .HL)),
        .ioWrite (joinBytes (s.B - 1) s.C) (s.peek (s.get16 .HL))] } := by
  simp only [opBlockOut, State.memRead, State.ioWrite, State.log, State.set16, State.set8, State.get16, List.append_assoc,
    List.singleton_append]

/-- The repeating forms: the element, and PC back by two where it repeats (44_block.md R253, R254). -/
theorem opBlockLdRepeat_eq (dir : BlockDir) (s : State) :
    opBlockLdRepeat dir s =
      { opBlockLd dir s with PC := if decide (s.get16 .BC - 1 ≠ 0) then s.PC - 2 else s.PC } := by
  have hbc : (opBlockLd dir s).get16 .BC = s.get16 .BC - 1 := by simp [opBlockLd_eq, State.get16]
  have hpc : (opBlockLd dir s).PC = s.PC := by simp [opBlockLd_eq]
  simp only [opBlockLdRepeat, repeatTail_eq, hbc, hpc]

/-- CPIR and CPDR (44_block.md R258, R259). -/
theorem opBlockCpRepeat_eq (dir : BlockDir) (s : State) :
    opBlockCpRepeat dir s =
      { opBlockCp dir s with
        PC := if decide (s.get16 .BC - 1 ≠ 0) && !decide (s.A - s.peek (s.get16 .HL) = 0) then s.PC - 2 else s.PC } := by
  have hbc : (opBlockCp dir s).get16 .BC = s.get16 .BC - 1 := by simp [opBlockCp_eq, State.get16]
  have hpc : (opBlockCp dir s).PC = s.PC := by simp [opBlockCp_eq]
  have hz : (opBlockCp dir s).F.Z = decide (s.A - s.peek (s.get16 .HL) = 0) := by simp [opBlockCp_eq, blockCpFlags]
  simp only [opBlockCpRepeat, repeatTail_eq, hbc, hpc, hz]

/-- INIR and INDR (44_block.md R263, R264). -/
theorem opBlockInRepeat_eq (dir : BlockDir) (s : State) :
    opBlockInRepeat dir s =
      { opBlockIn dir s with PC := if decide (s.B - 1 ≠ 0) then s.PC - 2 else s.PC } := by
  have hb : (opBlockIn dir s).B = s.B - 1 := by simp [opBlockIn_eq]
  have hpc : (opBlockIn dir s).PC = s.PC := by simp [opBlockIn_eq]
  simp only [opBlockInRepeat, repeatTail_eq, hb, hpc]

/-- OTIR and OTDR (44_block.md R267, R268). -/
theorem opBlockOutRepeat_eq (dir : BlockDir) (s : State) :
    opBlockOutRepeat dir s =
      { opBlockOut dir s with PC := if decide (s.B - 1 ≠ 0) then s.PC - 2 else s.PC } := by
  have hb : (opBlockOut dir s).B = s.B - 1 := by simp [opBlockOut_eq]
  have hpc : (opBlockOut dir s).PC = s.PC := by simp [opBlockOut_eq]
  simp only [opBlockOutRepeat, repeatTail_eq, hb, hpc]

/-! ## Words and the stack -/

theorem opLdFromMem_eq (r : Reg16) (nn : Word) (s : State) :
    opLdFromMem r nn s =
      ({ s with
        memAnswers := s.memAnswers.drop (s.memDevice.draws 2)
        draws := s.draws + s.memDevice.draws 2
        accesses := s.accesses ++ [.memRead nn (s.peek nn), .memRead (nn + 1) (s.memAnswer 1 (nn + 1))] } : State).set16 r
        (joinBytes (s.memAnswer 1 (nn + 1)) (s.peek nn)) := by
  simp only [opLdFromMem, State.memReadWord_eq]

theorem opStToMem_eq (r : Reg16) (nn : Word) (s : State) :
    opStToMem r nn s = { s with
      mem := s.memDevice.write (s.memDevice.write s.mem nn (loByte (s.get16 r))) (nn + 1) (hiByte (s.get16 r))
      accesses := s.accesses ++ [.memWrite nn (loByte (s.get16 r)), .memWrite (nn + 1) (hiByte (s.get16 r))] } := by
  simp only [opStToMem, State.memWriteWord, State.memWrite, State.log, nextAddr, List.append_assoc, List.singleton_append]

/-- EX (SP),HL and its index forms (45_load_exchange.md R314). -/
theorem opExSp_eq (r : Reg16) (s : State) :
    opExSp r s =
      ({ s with
        mem := s.memDevice.write (s.memDevice.write s.mem (s.SP + 1) (hiByte (s.get16 r))) s.SP (loByte (s.get16 r))
        memAnswers := s.memAnswers.drop (s.memDevice.draws 2)
        draws := s.draws + s.memDevice.draws 2
        accesses := s.accesses ++ [.memRead s.SP (s.peek s.SP), .memRead (s.SP + 1) (s.memAnswer 1 (s.SP + 1)),
          .memWrite (s.SP + 1) (hiByte (s.get16 r)), .memWrite s.SP (loByte (s.get16 r))] } : State).set16 r
        (joinBytes (s.memAnswer 1 (s.SP + 1)) (s.peek s.SP)) := by
  simp only [opExSp, State.memReadWord_eq, State.memWrite, State.log, nextAddr, List.append_assoc, List.cons_append,
    List.nil_append]

theorem opPush_eq (r : Reg16) (s : State) : opPush r s = s.push16 (s.get16 r) := rfl

theorem opPop_eq (r : Reg16) (s : State) :
    opPop r s =
      ({ s with
        SP := s.SP + 1 + 1
        memAnswers := s.memAnswers.drop (s.memDevice.draws 2)
        draws := s.draws + s.memDevice.draws 2
        accesses := s.accesses ++ [.memRead s.SP (s.peek s.SP), .memRead (s.SP + 1) (s.memAnswer 1 (s.SP + 1))] } : State).set16 r
        (joinBytes (s.memAnswer 1 (s.SP + 1)) (s.peek s.SP)) := by
  simp only [opPop, State.pop16_eq]

/-! ## Control flow -/

/-- CALL and RST (46_control_flow.md R337, R343). -/
theorem opCall_eq (target : Word) (s : State) :
    opCall target s = { s with
      PC := target
      SP := s.SP - 1 - 1
      mem := s.memDevice.write (s.memDevice.write s.mem (s.SP - 1) (hiByte s.PC)) (s.SP - 1 - 1) (loByte s.PC)
      accesses := s.accesses ++ [.memWrite (s.SP - 1) (hiByte s.PC), .memWrite (s.SP - 1 - 1) (loByte s.PC)] } := by
  simp only [opCall, opJump, State.push16_eq]

/-- RET (46_control_flow.md R339). -/
theorem returnToCaller_eq (s : State) :
    returnToCaller s = { s with
      PC := joinBytes (s.memAnswer 1 (s.SP + 1)) (s.peek s.SP)
      SP := s.SP + 1 + 1
      memAnswers := s.memAnswers.drop (s.memDevice.draws 2)
      draws := s.draws + s.memDevice.draws 2
      accesses := s.accesses ++ [.memRead s.SP (s.peek s.SP), .memRead (s.SP + 1) (s.memAnswer 1 (s.SP + 1))] } := by
  simp only [returnToCaller, State.pop16_eq]

/-- DJNZ (46_control_flow.md R336). -/
theorem opDjnz_eq (e : Int) (s : State) :
    opDjnz e s = { s with B := s.B - 1, PC := if s.B - 1 = 0 then s.PC else s.PC + BitVec.ofInt 16 e } := by
  by_cases h : s.B - 1 = 0
  · rw [if_pos h]
    exact if_pos h
  · rw [if_neg h]
    exact if_neg h

/-! ## Ports -/

theorem opInReg_eq (r : Reg8) (s : State) :
    opInReg r s =
      ({ s with
        F := byteFlags (s.portAnswer (s.get16 .BC)) (parity (s.portAnswer (s.get16 .BC))) s.F
        portAnswers := s.portAnswers.tail
        draws := s.draws + 1
        accesses := s.accesses ++ [.ioRead (s.get16 .BC) (s.portAnswer (s.get16 .BC))] } : State).set8 r
        (s.portAnswer (s.get16 .BC)) := rfl

end Sys2Proof.Machine
end

