-- ==== Sys2Proof/Laws/PerInstr.lean ====
section
/-! SUPPORT. Decoding an encoded well-formed instruction gives it back, and leaves the bytes after it: one lemma per constructor. -/

namespace Sys2Proof.Laws.RoundTrip

open Sys2Proof.Machine

/-- "decode of encode" for one instruction (30_encoding.md R94, R97; spec/opcode_table.json). -/
def Statement (i : Instr) : Prop := i.wellFormed = true → ∀ rest : List Byte, decode (encode i ++ rest) = .ok (i, rest)

/-- An immediate word survives (R104). -/
theorem ok_word (f : Word → Instr) (nn : Word) (rest : List Byte) :
    (.ok (f (joinBytes (hiByte nn) (loByte nn)), rest) : Decoded) = .ok (f nn, rest) := by
  rw [joinBytes_hi_lo]

/-- A signed operand in its range survives (R104). -/
theorem ok_signed (f : Int → Instr) (d : Int) (h : signedInRange d = true) (rest : List Byte) :
    (.ok (f (signedByte (displacementByte d)), rest) : Decoded) = .ok (f d, rest) := by
  simp only [signedInRange, Bool.and_eq_true, decide_eq_true_eq] at h
  rw [signedByte_displacementByte h.1 h.2]

/-! ### Base layer (30_encoding.md R110) -/

theorem nop : Statement .nop := fun _ _ => rfl
theorem ld_BC_nn (nn : Word) : Statement (.ld_BC_nn nn) := fun _ => ok_word .ld_BC_nn nn
theorem ld_mBC_A : Statement .ld_mBC_A := fun _ _ => rfl
theorem inc_BC : Statement .inc_BC := fun _ _ => rfl
theorem inc_B : Statement .inc_B := fun _ _ => rfl
theorem dec_B : Statement .dec_B := fun _ _ => rfl
theorem ld_B_n (n : Byte) : Statement (.ld_B_n n) := fun _ _ => rfl
theorem rlca : Statement .rlca := fun _ _ => rfl
theorem ex_AF_AF : Statement .ex_AF_AF := fun _ _ => rfl
theorem add_HL_BC : Statement .add_HL_BC := fun _ _ => rfl
theorem ld_A_mBC : Statement .ld_A_mBC := fun _ _ => rfl
theorem dec_BC : Statement .dec_BC := fun _ _ => rfl
theorem inc_C : Statement .inc_C := fun _ _ => rfl
theorem dec_C : Statement .dec_C := fun _ _ => rfl
theorem ld_C_n (n : Byte) : Statement (.ld_C_n n) := fun _ _ => rfl
theorem rrca : Statement .rrca := fun _ _ => rfl
theorem djnz_e (e : Int) : Statement (.djnz_e e) := ok_signed .djnz_e e
theorem ld_DE_nn (nn : Word) : Statement (.ld_DE_nn nn) := fun _ => ok_word .ld_DE_nn nn
theorem ld_mDE_A : Statement .ld_mDE_A := fun _ _ => rfl
theorem inc_DE : Statement .inc_DE := fun _ _ => rfl
theorem inc_D : Statement .inc_D := fun _ _ => rfl
theorem dec_D : Statement .dec_D := fun _ _ => rfl
theorem ld_D_n (n : Byte) : Statement (.ld_D_n n) := fun _ _ => rfl
theorem rla : Statement .rla := fun _ _ => rfl
theorem jr_e (e : Int) : Statement (.jr_e e) := ok_signed .jr_e e
theorem add_HL_DE : Statement .add_HL_DE := fun _ _ => rfl
theorem ld_A_mDE : Statement .ld_A_mDE := fun _ _ => rfl
theorem dec_DE : Statement .dec_DE := fun _ _ => rfl
theorem inc_E : Statement .inc_E := fun _ _ => rfl
theorem dec_E : Statement .dec_E := fun _ _ => rfl
theorem ld_E_n (n : Byte) : Statement (.ld_E_n n) := fun _ _ => rfl
theorem rra : Statement .rra := fun _ _ => rfl
theorem jr_NZ_e (e : Int) : Statement (.jr_NZ_e e) := ok_signed .jr_NZ_e e
theorem ld_HL_nn (nn : Word) : Statement (.ld_HL_nn nn) := fun _ => ok_word .ld_HL_nn nn
theorem ld_mnn_HL (nn : Word) : Statement (.ld_mnn_HL nn) := fun _ => ok_word .ld_mnn_HL nn
theorem inc_HL : Statement .inc_HL := fun _ _ => rfl
theorem inc_H : Statement .inc_H := fun _ _ => rfl
theorem dec_H : Statement .dec_H := fun _ _ => rfl
theorem ld_H_n (n : Byte) : Statement (.ld_H_n n) := fun _ _ => rfl
theorem daa : Statement .daa := fun _ _ => rfl
theorem jr_Z_e (e : Int) : Statement (.jr_Z_e e) := ok_signed .jr_Z_e e
theorem add_HL_HL : Statement .add_HL_HL := fun _ _ => rfl
theorem ld_HL_mnn (nn : Word) : Statement (.ld_HL_mnn nn) := fun _ => ok_word .ld_HL_mnn nn
theorem dec_HL : Statement .dec_HL := fun _ _ => rfl
theorem inc_L : Statement .inc_L := fun _ _ => rfl
theorem dec_L : Statement .dec_L := fun _ _ => rfl
theorem ld_L_n (n : Byte) : Statement (.ld_L_n n) := fun _ _ => rfl
theorem cpl : Statement .cpl := fun _ _ => rfl
theorem jr_NC_e (e : Int) : Statement (.jr_NC_e e) := ok_signed .jr_NC_e e
theorem ld_SP_nn (nn : Word) : Statement (.ld_SP_nn nn) := fun _ => ok_word .ld_SP_nn nn
theorem ld_mnn_A (nn : Word) : Statement (.ld_mnn_A nn) := fun _ => ok_word .ld_mnn_A nn
theorem inc_SP : Statement .inc_SP := fun _ _ => rfl
theorem inc_mHL : Statement .inc_mHL := fun _ _ => rfl
theorem dec_mHL : Statement .dec_mHL := fun _ _ => rfl
theorem ld_mHL_n (n : Byte) : Statement (.ld_mHL_n n) := fun _ _ => rfl
theorem scf : Statement .scf := fun _ _ => rfl
theorem jr_C_e (e : Int) : Statement (.jr_C_e e) := ok_signed .jr_C_e e
theorem add_HL_SP : Statement .add_HL_SP := fun _ _ => rfl
theorem ld_A_mnn (nn : Word) : Statement (.ld_A_mnn nn) := fun _ => ok_word .ld_A_mnn nn
theorem dec_SP : Statement .dec_SP := fun _ _ => rfl
theorem inc_A : Statement .inc_A := fun _ _ => rfl
theorem dec_A : Statement .dec_A := fun _ _ => rfl
theorem ld_A_n (n : Byte) : Statement (.ld_A_n n) := fun _ _ => rfl
theorem ccf : Statement .ccf := fun _ _ => rfl
theorem ld_B_B : Statement .ld_B_B := fun _ _ => rfl
theorem ld_B_C : Statement .ld_B_C := fun _ _ => rfl
theorem ld_B_D : Statement .ld_B_D := fun _ _ => rfl
theorem ld_B_E : Statement .ld_B_E := fun _ _ => rfl
theorem ld_B_H : Statement .ld_B_H := fun _ _ => rfl
theorem ld_B_L : Statement .ld_B_L := fun _ _ => rfl
theorem ld_B_mHL : Statement .ld_B_mHL := fun _ _ => rfl
theorem ld_B_A : Statement .ld_B_A := fun _ _ => rfl
theorem ld_C_B : Statement .ld_C_B := fun _ _ => rfl
theorem ld_C_C : Statement .ld_C_C := fun _ _ => rfl
theorem ld_C_D : Statement .ld_C_D := fun _ _ => rfl
theorem ld_C_E : Statement .ld_C_E := fun _ _ => rfl
theorem ld_C_H : Statement .ld_C_H := fun _ _ => rfl
theorem ld_C_L : Statement .ld_C_L := fun _ _ => rfl
theorem ld_C_mHL : Statement .ld_C_mHL := fun _ _ => rfl
theorem ld_C_A : Statement .ld_C_A := fun _ _ => rfl
theorem ld_D_B : Statement .ld_D_B := fun _ _ => rfl
theorem ld_D_C : Statement .ld_D_C := fun _ _ => rfl
theorem ld_D_D : Statement .ld_D_D := fun _ _ => rfl
theorem ld_D_E : Statement .ld_D_E := fun _ _ => rfl
theorem ld_D_H : Statement .ld_D_H := fun _ _ => rfl
theorem ld_D_L : Statement .ld_D_L := fun _ _ => rfl
theorem ld_D_mHL : Statement .ld_D_mHL := fun _ _ => rfl
theorem ld_D_A : Statement .ld_D_A := fun _ _ => rfl
theorem ld_E_B : Statement .ld_E_B := fun _ _ => rfl
theorem ld_E_C : Statement .ld_E_C := fun _ _ => rfl
theorem ld_E_D : Statement .ld_E_D := fun _ _ => rfl
theorem ld_E_E : Statement .ld_E_E := fun _ _ => rfl
theorem ld_E_H : Statement .ld_E_H := fun _ _ => rfl
theorem ld_E_L : Statement .ld_E_L := fun _ _ => rfl
theorem ld_E_mHL : Statement .ld_E_mHL := fun _ _ => rfl
theorem ld_E_A : Statement .ld_E_A := fun _ _ => rfl
theorem ld_H_B : Statement .ld_H_B := fun _ _ => rfl
theorem ld_H_C : Statement .ld_H_C := fun _ _ => rfl
theorem ld_H_D : Statement .ld_H_D := fun _ _ => rfl
theorem ld_H_E : Statement .ld_H_E := fun _ _ => rfl
theorem ld_H_H : Statement .ld_H_H := fun _ _ => rfl
theorem ld_H_L : Statement .ld_H_L := fun _ _ => rfl
theorem ld_H_mHL : Statement .ld_H_mHL := fun _ _ => rfl
theorem ld_H_A : Statement .ld_H_A := fun _ _ => rfl
theorem ld_L_B : Statement .ld_L_B := fun _ _ => rfl
theorem ld_L_C : Statement .ld_L_C := fun _ _ => rfl
theorem ld_L_D : Statement .ld_L_D := fun _ _ => rfl
theorem ld_L_E : Statement .ld_L_E := fun _ _ => rfl
theorem ld_L_H : Statement .ld_L_H := fun _ _ => rfl
theorem ld_L_L : Statement .ld_L_L := fun _ _ => rfl
theorem ld_L_mHL : Statement .ld_L_mHL := fun _ _ => rfl
theorem ld_L_A : Statement .ld_L_A := fun _ _ => rfl
theorem ld_mHL_B : Statement .ld_mHL_B := fun _ _ => rfl
theorem ld_mHL_C : Statement .ld_mHL_C := fun _ _ => rfl
theorem ld_mHL_D : Statement .ld_mHL_D := fun _ _ => rfl
theorem ld_mHL_E : Statement .ld_mHL_E := fun _ _ => rfl
theorem ld_mHL_H : Statement .ld_mHL_H := fun _ _ => rfl
theorem ld_mHL_L : Statement .ld_mHL_L := fun _ _ => rfl
theorem halt : Statement .halt := fun _ _ => rfl
theorem ld_mHL_A : Statement .ld_mHL_A := fun _ _ => rfl
theorem ld_A_B : Statement .ld_A_B := fun _ _ => rfl
theorem ld_A_C : Statement .ld_A_C := fun _ _ => rfl
theorem ld_A_D : Statement .ld_A_D := fun _ _ => rfl
theorem ld_A_E : Statement .ld_A_E := fun _ _ => rfl
theorem ld_A_H : Statement .ld_A_H := fun _ _ => rfl
theorem ld_A_L : Statement .ld_A_L := fun _ _ => rfl
theorem ld_A_mHL : Statement .ld_A_mHL := fun _ _ => rfl
theorem ld_A_A : Statement .ld_A_A := fun _ _ => rfl
theorem add_A_B : Statement .add_A_B := fun _ _ => rfl
theorem add_A_C : Statement .add_A_C := fun _ _ => rfl
theorem add_A_D : Statement .add_A_D := fun _ _ => rfl
theorem add_A_E : Statement .add_A_E := fun _ _ => rfl
theorem add_A_H : Statement .add_A_H := fun _ _ => rfl
theorem add_A_L : Statement .add_A_L := fun _ _ => rfl
theorem add_A_mHL : Statement .add_A_mHL := fun _ _ => rfl
theorem add_A_A : Statement .add_A_A := fun _ _ => rfl
theorem adc_A_B : Statement .adc_A_B := fun _ _ => rfl
theorem adc_A_C : Statement .adc_A_C := fun _ _ => rfl
theorem adc_A_D : Statement .adc_A_D := fun _ _ => rfl
theorem adc_A_E : Statement .adc_A_E := fun _ _ => rfl
theorem adc_A_H : Statement .adc_A_H := fun _ _ => rfl
theorem adc_A_L : Statement .adc_A_L := fun _ _ => rfl
theorem adc_A_mHL : Statement .adc_A_mHL := fun _ _ => rfl
theorem adc_A_A : Statement .adc_A_A := fun _ _ => rfl
theorem sub_B : Statement .sub_B := fun _ _ => rfl
theorem sub_C : Statement .sub_C := fun _ _ => rfl
theorem sub_D : Statement .sub_D := fun _ _ => rfl
theorem sub_E : Statement .sub_E := fun _ _ => rfl
theorem sub_H : Statement .sub_H := fun _ _ => rfl
theorem sub_L : Statement .sub_L := fun _ _ => rfl
theorem sub_mHL : Statement .sub_mHL := fun _ _ => rfl
theorem sub_A : Statement .sub_A := fun _ _ => rfl
theorem sbc_A_B : Statement .sbc_A_B := fun _ _ => rfl
theorem sbc_A_C : Statement .sbc_A_C := fun _ _ => rfl
theorem sbc_A_D : Statement .sbc_A_D := fun _ _ => rfl
theorem sbc_A_E : Statement .sbc_A_E := fun _ _ => rfl
theorem sbc_A_H : Statement .sbc_A_H := fun _ _ => rfl
theorem sbc_A_L : Statement .sbc_A_L := fun _ _ => rfl
theorem sbc_A_mHL : Statement .sbc_A_mHL := fun _ _ => rfl
theorem sbc_A_A : Statement .sbc_A_A := fun _ _ => rfl
theorem and_B : Statement .and_B := fun _ _ => rfl
theorem and_C : Statement .and_C := fun _ _ => rfl
theorem and_D : Statement .and_D := fun _ _ => rfl
theorem and_E : Statement .and_E := fun _ _ => rfl
theorem and_H : Statement .and_H := fun _ _ => rfl
theorem and_L : Statement .and_L := fun _ _ => rfl
theorem and_mHL : Statement .and_mHL := fun _ _ => rfl
theorem and_A : Statement .and_A := fun _ _ => rfl
theorem xor_B : Statement .xor_B := fun _ _ => rfl
theorem xor_C : Statement .xor_C := fun _ _ => rfl
theorem xor_D : Statement .xor_D := fun _ _ => rfl
theorem xor_E : Statement .xor_E := fun _ _ => rfl
theorem xor_H : Statement .xor_H := fun _ _ => rfl
theorem xor_L : Statement .xor_L := fun _ _ => rfl
theorem xor_mHL : Statement .xor_mHL := fun _ _ => rfl
theorem xor_A : Statement .xor_A := fun _ _ => rfl
theorem or_B : Statement .or_B := fun _ _ => rfl
theorem or_C : Statement .or_C := fun _ _ => rfl
theorem or_D : Statement .or_D := fun _ _ => rfl
theorem or_E : Statement .or_E := fun _ _ => rfl
theorem or_H : Statement .or_H := fun _ _ => rfl
theorem or_L : Statement .or_L := fun _ _ => rfl
theorem or_mHL : Statement .or_mHL := fun _ _ => rfl
theorem or_A : Statement .or_A := fun _ _ => rfl
theorem cp_B : Statement .cp_B := fun _ _ => rfl
theorem cp_C : Statement .cp_C := fun _ _ => rfl
theorem cp_D : Statement .cp_D := fun _ _ => rfl
theorem cp_E : Statement .cp_E := fun _ _ => rfl
theorem cp_H : Statement .cp_H := fun _ _ => rfl
theorem cp_L : Statement .cp_L := fun _ _ => rfl
theorem cp_mHL : Statement .cp_mHL := fun _ _ => rfl
theorem cp_A : Statement .cp_A := fun _ _ => rfl
theorem ret_NZ : Statement .ret_NZ := fun _ _ => rfl
theorem pop_BC : Statement .pop_BC := fun _ _ => rfl
theorem jp_NZ_nn (nn : Word) : Statement (.jp_NZ_nn nn) := fun _ => ok_word .jp_NZ_nn nn
theorem jp_nn (nn : Word) : Statement (.jp_nn nn) := fun _ => ok_word .jp_nn nn
theorem call_NZ_nn (nn : Word) : Statement (.call_NZ_nn nn) := fun _ => ok_word .call_NZ_nn nn
theorem push_BC : Statement .push_BC := fun _ _ => rfl
theorem add_A_n (n : Byte) : Statement (.add_A_n n) := fun _ _ => rfl
theorem rst_00 : Statement .rst_00 := fun _ _ => rfl
theorem ret_Z : Statement .ret_Z := fun _ _ => rfl
theorem ret : Statement .ret := fun _ _ => rfl
theorem jp_Z_nn (nn : Word) : Statement (.jp_Z_nn nn) := fun _ => ok_word .jp_Z_nn nn
theorem call_Z_nn (nn : Word) : Statement (.call_Z_nn nn) := fun _ => ok_word .call_Z_nn nn
theorem call_nn (nn : Word) : Statement (.call_nn nn) := fun _ => ok_word .call_nn nn
theorem adc_A_n (n : Byte) : Statement (.adc_A_n n) := fun _ _ => rfl
theorem rst_08 : Statement .rst_08 := fun _ _ => rfl
theorem ret_NC : Statement .ret_NC := fun _ _ => rfl
theorem pop_DE : Statement .pop_DE := fun _ _ => rfl
theorem jp_NC_nn (nn : Word) : Statement (.jp_NC_nn nn) := fun _ => ok_word .jp_NC_nn nn
theorem out_mn_A (n : Byte) : Statement (.out_mn_A n) := fun _ _ => rfl
theorem call_NC_nn (nn : Word) : Statement (.call_NC_nn nn) := fun _ => ok_word .call_NC_nn nn
theorem push_DE : Statement .push_DE := fun _ _ => rfl
theorem sub_n (n : Byte) : Statement (.sub_n n) := fun _ _ => rfl
theorem rst_10 : Statement .rst_10 := fun _ _ => rfl
theorem ret_C : Statement .ret_C := fun _ _ => rfl
theorem exx : Statement .exx := fun _ _ => rfl
theorem jp_C_nn (nn : Word) : Statement (.jp_C_nn nn) := fun _ => ok_word .jp_C_nn nn
theorem in_A_mn (n : Byte) : Statement (.in_A_mn n) := fun _ _ => rfl
theorem call_C_nn (nn : Word) : Statement (.call_C_nn nn) := fun _ => ok_word .call_C_nn nn
theorem sbc_A_n (n : Byte) : Statement (.sbc_A_n n) := fun _ _ => rfl
theorem rst_18 : Statement .rst_18 := fun _ _ => rfl
theorem ret_PO : Statement .ret_PO := fun _ _ => rfl
theorem pop_HL : Statement .pop_HL := fun _ _ => rfl
theorem jp_PO_nn (nn : Word) : Statement (.jp_PO_nn nn) := fun _ => ok_word .jp_PO_nn nn
theorem ex_mSP_HL : Statement .ex_mSP_HL := fun _ _ => rfl
theorem call_PO_nn (nn : Word) : Statement (.call_PO_nn nn) := fun _ => ok_word .call_PO_nn nn
theorem push_HL : Statement .push_HL := fun _ _ => rfl
theorem and_n (n : Byte) : Statement (.and_n n) := fun _ _ => rfl
theorem rst_20 : Statement .rst_20 := fun _ _ => rfl
theorem ret_PE : Statement .ret_PE := fun _ _ => rfl
theorem jp_mHL : Statement .jp_mHL := fun _ _ => rfl
theorem jp_PE_nn (nn : Word) : Statement (.jp_PE_nn nn) := fun _ => ok_word .jp_PE_nn nn
theorem ex_DE_HL : Statement .ex_DE_HL := fun _ _ => rfl
theorem call_PE_nn (nn : Word) : Statement (.call_PE_nn nn) := fun _ => ok_word .call_PE_nn nn
theorem xor_n (n : Byte) : Statement (.xor_n n) := fun _ _ => rfl
theorem rst_28 : Statement .rst_28 := fun _ _ => rfl
theorem ret_P : Statement .ret_P := fun _ _ => rfl
theorem pop_AF : Statement .pop_AF := fun _ _ => rfl
theorem jp_P_nn (nn : Word) : Statement (.jp_P_nn nn) := fun _ => ok_word .jp_P_nn nn
theorem di : Statement .di := fun _ _ => rfl
theorem call_P_nn (nn : Word) : Statement (.call_P_nn nn) := fun _ => ok_word .call_P_nn nn
theorem push_AF : Statement .push_AF := fun _ _ => rfl
theorem or_n (n : Byte) : Statement (.or_n n) := fun _ _ => rfl
theorem rst_30 : Statement .rst_30 := fun _ _ => rfl
theorem ret_M : Statement .ret_M := fun _ _ => rfl
theorem ld_SP_HL : Statement .ld_SP_HL := fun _ _ => rfl
theorem jp_M_nn (nn : Word) : Statement (.jp_M_nn nn) := fun _ => ok_word .jp_M_nn nn
theorem ei : Statement .ei := fun _ _ => rfl
theorem call_M_nn (nn : Word) : Statement (.call_M_nn nn) := fun _ => ok_word .call_M_nn nn
theorem cp_n (n : Byte) : Statement (.cp_n n) := fun _ _ => rfl
theorem rst_38 : Statement .rst_38 := fun _ _ => rfl

/-! ### CB layer (R111) -/

theorem rlc_B : Statement .rlc_B := fun _ _ => rfl
theorem rlc_C : Statement .rlc_C := fun _ _ => rfl
theorem rlc_D : Statement .rlc_D := fun _ _ => rfl
theorem rlc_E : Statement .rlc_E := fun _ _ => rfl
theorem rlc_H : Statement .rlc_H := fun _ _ => rfl
theorem rlc_L : Statement .rlc_L := fun _ _ => rfl
theorem rlc_mHL : Statement .rlc_mHL := fun _ _ => rfl
theorem rlc_A : Statement .rlc_A := fun _ _ => rfl
theorem rrc_B : Statement .rrc_B := fun _ _ => rfl
theorem rrc_C : Statement .rrc_C := fun _ _ => rfl
theorem rrc_D : Statement .rrc_D := fun _ _ => rfl
theorem rrc_E : Statement .rrc_E := fun _ _ => rfl
theorem rrc_H : Statement .rrc_H := fun _ _ => rfl
theorem rrc_L : Statement .rrc_L := fun _ _ => rfl
theorem rrc_mHL : Statement .rrc_mHL := fun _ _ => rfl
theorem rrc_A : Statement .rrc_A := fun _ _ => rfl
theorem rl_B : Statement .rl_B := fun _ _ => rfl
theorem rl_C : Statement .rl_C := fun _ _ => rfl
theorem rl_D : Statement .rl_D := fun _ _ => rfl
theorem rl_E : Statement .rl_E := fun _ _ => rfl
theorem rl_H : Statement .rl_H := fun _ _ => rfl
theorem rl_L : Statement .rl_L := fun _ _ => rfl
theorem rl_mHL : Statement .rl_mHL := fun _ _ => rfl
theorem rl_A : Statement .rl_A := fun _ _ => rfl
theorem rr_B : Statement .rr_B := fun _ _ => rfl
theorem rr_C : Statement .rr_C := fun _ _ => rfl
theorem rr_D : Statement .rr_D := fun _ _ => rfl
theorem rr_E : Statement .rr_E := fun _ _ => rfl
theorem rr_H : Statement .rr_H := fun _ _ => rfl
theorem rr_L : Statement .rr_L := fun _ _ => rfl
theorem rr_mHL : Statement .rr_mHL := fun _ _ => rfl
theorem rr_A : Statement .rr_A := fun _ _ => rfl
theorem sla_B : Statement .sla_B := fun _ _ => rfl
theorem sla_C : Statement .sla_C := fun _ _ => rfl
theorem sla_D : Statement .sla_D := fun _ _ => rfl
theorem sla_E : Statement .sla_E := fun _ _ => rfl
theorem sla_H : Statement .sla_H := fun _ _ => rfl
theorem sla_L : Statement .sla_L := fun _ _ => rfl
theorem sla_mHL : Statement .sla_mHL := fun _ _ => rfl
theorem sla_A : Statement .sla_A := fun _ _ => rfl
theorem sra_B : Statement .sra_B := fun _ _ => rfl
theorem sra_C : Statement .sra_C := fun _ _ => rfl
theorem sra_D : Statement .sra_D := fun _ _ => rfl
theorem sra_E : Statement .sra_E := fun _ _ => rfl
theorem sra_H : Statement .sra_H := fun _ _ => rfl
theorem sra_L : Statement .sra_L := fun _ _ => rfl
theorem sra_mHL : Statement .sra_mHL := fun _ _ => rfl
theorem sra_A : Statement .sra_A := fun _ _ => rfl
theorem sll_B : Statement .sll_B := fun _ _ => rfl
theorem sll_C : Statement .sll_C := fun _ _ => rfl
theorem sll_D : Statement .sll_D := fun _ _ => rfl
theorem sll_E : Statement .sll_E := fun _ _ => rfl
theorem sll_H : Statement .sll_H := fun _ _ => rfl
theorem sll_L : Statement .sll_L := fun _ _ => rfl
theorem sll_mHL : Statement .sll_mHL := fun _ _ => rfl
theorem sll_A : Statement .sll_A := fun _ _ => rfl
theorem srl_B : Statement .srl_B := fun _ _ => rfl
theorem srl_C : Statement .srl_C := fun _ _ => rfl
theorem srl_D : Statement .srl_D := fun _ _ => rfl
theorem srl_E : Statement .srl_E := fun _ _ => rfl
theorem srl_H : Statement .srl_H := fun _ _ => rfl
theorem srl_L : Statement .srl_L := fun _ _ => rfl
theorem srl_mHL : Statement .srl_mHL := fun _ _ => rfl
theorem srl_A : Statement .srl_A := fun _ _ => rfl
theorem bit_0_B : Statement .bit_0_B := fun _ _ => rfl
theorem bit_0_C : Statement .bit_0_C := fun _ _ => rfl
theorem bit_0_D : Statement .bit_0_D := fun _ _ => rfl
theorem bit_0_E : Statement .bit_0_E := fun _ _ => rfl
theorem bit_0_H : Statement .bit_0_H := fun _ _ => rfl
theorem bit_0_L : Statement .bit_0_L := fun _ _ => rfl
theorem bit_0_mHL : Statement .bit_0_mHL := fun _ _ => rfl
theorem bit_0_A : Statement .bit_0_A := fun _ _ => rfl
theorem bit_1_B : Statement .bit_1_B := fun _ _ => rfl
theorem bit_1_C : Statement .bit_1_C := fun _ _ => rfl
theorem bit_1_D : Statement .bit_1_D := fun _ _ => rfl
theorem bit_1_E : Statement .bit_1_E := fun _ _ => rfl
theorem bit_1_H : Statement .bit_1_H := fun _ _ => rfl
theorem bit_1_L : Statement .bit_1_L := fun _ _ => rfl
theorem bit_1_mHL : Statement .bit_1_mHL := fun _ _ => rfl
theorem bit_1_A : Statement .bit_1_A := fun _ _ => rfl
theorem bit_2_B : Statement .bit_2_B := fun _ _ => rfl
theorem bit_2_C : Statement .bit_2_C := fun _ _ => rfl
theorem bit_2_D : Statement .bit_2_D := fun _ _ => rfl
theorem bit_2_E : Statement .bit_2_E := fun _ _ => rfl
theorem bit_2_H : Statement .bit_2_H := fun _ _ => rfl
theorem bit_2_L : Statement .bit_2_L := fun _ _ => rfl
theorem bit_2_mHL : Statement .bit_2_mHL := fun _ _ => rfl
theorem bit_2_A : Statement .bit_2_A := fun _ _ => rfl
theorem bit_3_B : Statement .bit_3_B := fun _ _ => rfl
theorem bit_3_C : Statement .bit_3_C := fun _ _ => rfl
theorem bit_3_D : Statement .bit_3_D := fun _ _ => rfl
theorem bit_3_E : Statement .bit_3_E := fun _ _ => rfl
theorem bit_3_H : Statement .bit_3_H := fun _ _ => rfl
theorem bit_3_L : Statement .bit_3_L := fun _ _ => rfl
theorem bit_3_mHL : Statement .bit_3_mHL := fun _ _ => rfl
theorem bit_3_A : Statement .bit_3_A := fun _ _ => rfl
theorem bit_4_B : Statement .bit_4_B := fun _ _ => rfl
theorem bit_4_C : Statement .bit_4_C := fun _ _ => rfl
theorem bit_4_D : Statement .bit_4_D := fun _ _ => rfl
theorem bit_4_E : Statement .bit_4_E := fun _ _ => rfl
theorem bit_4_H : Statement .bit_4_H := fun _ _ => rfl
theorem bit_4_L : Statement .bit_4_L := fun _ _ => rfl
theorem bit_4_mHL : Statement .bit_4_mHL := fun _ _ => rfl
theorem bit_4_A : Statement .bit_4_A := fun _ _ => rfl
theorem bit_5_B : Statement .bit_5_B := fun _ _ => rfl
theorem bit_5_C : Statement .bit_5_C := fun _ _ => rfl
theorem bit_5_D : Statement .bit_5_D := fun _ _ => rfl
theorem bit_5_E : Statement .bit_5_E := fun _ _ => rfl
theorem bit_5_H : Statement .bit_5_H := fun _ _ => rfl
theorem bit_5_L : Statement .bit_5_L := fun _ _ => rfl
theorem bit_5_mHL : Statement .bit_5_mHL := fun _ _ => rfl
theorem bit_5_A : Statement .bit_5_A := fun _ _ => rfl
theorem bit_6_B : Statement .bit_6_B := fun _ _ => rfl
theorem bit_6_C : Statement .bit_6_C := fun _ _ => rfl
theorem bit_6_D : Statement .bit_6_D := fun _ _ => rfl
theorem bit_6_E : Statement .bit_6_E := fun _ _ => rfl
theorem bit_6_H : Statement .bit_6_H := fun _ _ => rfl
theorem bit_6_L : Statement .bit_6_L := fun _ _ => rfl
theorem bit_6_mHL : Statement .bit_6_mHL := fun _ _ => rfl
theorem bit_6_A : Statement .bit_6_A := fun _ _ => rfl
theorem bit_7_B : Statement .bit_7_B := fun _ _ => rfl
theorem bit_7_C : Statement .bit_7_C := fun _ _ => rfl
theorem bit_7_D : Statement .bit_7_D := fun _ _ => rfl
theorem bit_7_E : Statement .bit_7_E := fun _ _ => rfl
theorem bit_7_H : Statement .bit_7_H := fun _ _ => rfl
theorem bit_7_L : Statement .bit_7_L := fun _ _ => rfl
theorem bit_7_mHL : Statement .bit_7_mHL := fun _ _ => rfl
theorem bit_7_A : Statement .bit_7_A := fun _ _ => rfl
theorem res_0_B : Statement .res_0_B := fun _ _ => rfl
theorem res_0_C : Statement .res_0_C := fun _ _ => rfl
theorem res_0_D : Statement .res_0_D := fun _ _ => rfl
theorem res_0_E : Statement .res_0_E := fun _ _ => rfl
theorem res_0_H : Statement .res_0_H := fun _ _ => rfl
theorem res_0_L : Statement .res_0_L := fun _ _ => rfl
theorem res_0_mHL : Statement .res_0_mHL := fun _ _ => rfl
theorem res_0_A : Statement .res_0_A := fun _ _ => rfl
theorem res_1_B : Statement .res_1_B := fun _ _ => rfl
theorem res_1_C : Statement .res_1_C := fun _ _ => rfl
theorem res_1_D : Statement .res_1_D := fun _ _ => rfl
theorem res_1_E : Statement .res_1_E := fun _ _ => rfl
theorem res_1_H : Statement .res_1_H := fun _ _ => rfl
theorem res_1_L : Statement .res_1_L := fun _ _ => rfl
theorem res_1_mHL : Statement .res_1_mHL := fun _ _ => rfl
theorem res_1_A : Statement .res_1_A := fun _ _ => rfl
theorem res_2_B : Statement .res_2_B := fun _ _ => rfl
theorem res_2_C : Statement .res_2_C := fun _ _ => rfl
theorem res_2_D : Statement .res_2_D := fun _ _ => rfl
theorem res_2_E : Statement .res_2_E := fun _ _ => rfl
theorem res_2_H : Statement .res_2_H := fun _ _ => rfl
theorem res_2_L : Statement .res_2_L := fun _ _ => rfl
theorem res_2_mHL : Statement .res_2_mHL := fun _ _ => rfl
theorem res_2_A : Statement .res_2_A := fun _ _ => rfl
theorem res_3_B : Statement .res_3_B := fun _ _ => rfl
theorem res_3_C : Statement .res_3_C := fun _ _ => rfl
theorem res_3_D : Statement .res_3_D := fun _ _ => rfl
theorem res_3_E : Statement .res_3_E := fun _ _ => rfl
theorem res_3_H : Statement .res_3_H := fun _ _ => rfl
theorem res_3_L : Statement .res_3_L := fun _ _ => rfl
theorem res_3_mHL : Statement .res_3_mHL := fun _ _ => rfl
theorem res_3_A : Statement .res_3_A := fun _ _ => rfl
theorem res_4_B : Statement .res_4_B := fun _ _ => rfl
theorem res_4_C : Statement .res_4_C := fun _ _ => rfl
theorem res_4_D : Statement .res_4_D := fun _ _ => rfl
theorem res_4_E : Statement .res_4_E := fun _ _ => rfl
theorem res_4_H : Statement .res_4_H := fun _ _ => rfl
theorem res_4_L : Statement .res_4_L := fun _ _ => rfl
theorem res_4_mHL : Statement .res_4_mHL := fun _ _ => rfl
theorem res_4_A : Statement .res_4_A := fun _ _ => rfl
theorem res_5_B : Statement .res_5_B := fun _ _ => rfl
theorem res_5_C : Statement .res_5_C := fun _ _ => rfl
theorem res_5_D : Statement .res_5_D := fun _ _ => rfl
theorem res_5_E : Statement .res_5_E := fun _ _ => rfl
theorem res_5_H : Statement .res_5_H := fun _ _ => rfl
theorem res_5_L : Statement .res_5_L := fun _ _ => rfl
theorem res_5_mHL : Statement .res_5_mHL := fun _ _ => rfl
theorem res_5_A : Statement .res_5_A := fun _ _ => rfl
theorem res_6_B : Statement .res_6_B := fun _ _ => rfl
theorem res_6_C : Statement .res_6_C := fun _ _ => rfl
theorem res_6_D : Statement .res_6_D := fun _ _ => rfl
theorem res_6_E : Statement .res_6_E := fun _ _ => rfl
theorem res_6_H : Statement .res_6_H := fun _ _ => rfl
theorem res_6_L : Statement .res_6_L := fun _ _ => rfl
theorem res_6_mHL : Statement .res_6_mHL := fun _ _ => rfl
theorem res_6_A : Statement .res_6_A := fun _ _ => rfl
theorem res_7_B : Statement .res_7_B := fun _ _ => rfl
theorem res_7_C : Statement .res_7_C := fun _ _ => rfl
theorem res_7_D : Statement .res_7_D := fun _ _ => rfl
theorem res_7_E : Statement .res_7_E := fun _ _ => rfl
theorem res_7_H : Statement .res_7_H := fun _ _ => rfl
theorem res_7_L : Statement .res_7_L := fun _ _ => rfl
theorem res_7_mHL : Statement .res_7_mHL := fun _ _ => rfl
theorem res_7_A : Statement .res_7_A := fun _ _ => rfl
theorem set_0_B : Statement .set_0_B := fun _ _ => rfl
theorem set_0_C : Statement .set_0_C := fun _ _ => rfl
theorem set_0_D : Statement .set_0_D := fun _ _ => rfl
theorem set_0_E : Statement .set_0_E := fun _ _ => rfl
theorem set_0_H : Statement .set_0_H := fun _ _ => rfl
theorem set_0_L : Statement .set_0_L := fun _ _ => rfl
theorem set_0_mHL : Statement .set_0_mHL := fun _ _ => rfl
theorem set_0_A : Statement .set_0_A := fun _ _ => rfl
theorem set_1_B : Statement .set_1_B := fun _ _ => rfl
theorem set_1_C : Statement .set_1_C := fun _ _ => rfl
theorem set_1_D : Statement .set_1_D := fun _ _ => rfl
theorem set_1_E : Statement .set_1_E := fun _ _ => rfl
theorem set_1_H : Statement .set_1_H := fun _ _ => rfl
theorem set_1_L : Statement .set_1_L := fun _ _ => rfl
theorem set_1_mHL : Statement .set_1_mHL := fun _ _ => rfl
theorem set_1_A : Statement .set_1_A := fun _ _ => rfl
theorem set_2_B : Statement .set_2_B := fun _ _ => rfl
theorem set_2_C : Statement .set_2_C := fun _ _ => rfl
theorem set_2_D : Statement .set_2_D := fun _ _ => rfl
theorem set_2_E : Statement .set_2_E := fun _ _ => rfl
theorem set_2_H : Statement .set_2_H := fun _ _ => rfl
theorem set_2_L : Statement .set_2_L := fun _ _ => rfl
theorem set_2_mHL : Statement .set_2_mHL := fun _ _ => rfl
theorem set_2_A : Statement .set_2_A := fun _ _ => rfl
theorem set_3_B : Statement .set_3_B := fun _ _ => rfl
theorem set_3_C : Statement .set_3_C := fun _ _ => rfl
theorem set_3_D : Statement .set_3_D := fun _ _ => rfl
theorem set_3_E : Statement .set_3_E := fun _ _ => rfl
theorem set_3_H : Statement .set_3_H := fun _ _ => rfl
theorem set_3_L : Statement .set_3_L := fun _ _ => rfl
theorem set_3_mHL : Statement .set_3_mHL := fun _ _ => rfl
theorem set_3_A : Statement .set_3_A := fun _ _ => rfl
theorem set_4_B : Statement .set_4_B := fun _ _ => rfl
theorem set_4_C : Statement .set_4_C := fun _ _ => rfl
theorem set_4_D : Statement .set_4_D := fun _ _ => rfl
theorem set_4_E : Statement .set_4_E := fun _ _ => rfl
theorem set_4_H : Statement .set_4_H := fun _ _ => rfl
theorem set_4_L : Statement .set_4_L := fun _ _ => rfl
theorem set_4_mHL : Statement .set_4_mHL := fun _ _ => rfl
theorem set_4_A : Statement .set_4_A := fun _ _ => rfl
theorem set_5_B : Statement .set_5_B := fun _ _ => rfl
theorem set_5_C : Statement .set_5_C := fun _ _ => rfl
theorem set_5_D : Statement .set_5_D := fun _ _ => rfl
theorem set_5_E : Statement .set_5_E := fun _ _ => rfl
theorem set_5_H : Statement .set_5_H := fun _ _ => rfl
theorem set_5_L : Statement .set_5_L := fun _ _ => rfl
theorem set_5_mHL : Statement .set_5_mHL := fun _ _ => rfl
theorem set_5_A : Statement .set_5_A := fun _ _ => rfl
theorem set_6_B : Statement .set_6_B := fun _ _ => rfl
theorem set_6_C : Statement .set_6_C := fun _ _ => rfl
theorem set_6_D : Statement .set_6_D := fun _ _ => rfl
theorem set_6_E : Statement .set_6_E := fun _ _ => rfl
theorem set_6_H : Statement .set_6_H := fun _ _ => rfl
theorem set_6_L : Statement .set_6_L := fun _ _ => rfl
theorem set_6_mHL : Statement .set_6_mHL := fun _ _ => rfl
theorem set_6_A : Statement .set_6_A := fun _ _ => rfl
theorem set_7_B : Statement .set_7_B := fun _ _ => rfl
theorem set_7_C : Statement .set_7_C := fun _ _ => rfl
theorem set_7_D : Statement .set_7_D := fun _ _ => rfl
theorem set_7_E : Statement .set_7_E := fun _ _ => rfl
theorem set_7_H : Statement .set_7_H := fun _ _ => rfl
theorem set_7_L : Statement .set_7_L := fun _ _ => rfl
theorem set_7_mHL : Statement .set_7_mHL := fun _ _ => rfl
theorem set_7_A : Statement .set_7_A := fun _ _ => rfl

/-! ### ED layer (R112) -/

theorem in_B_mC : Statement .in_B_mC := fun _ _ => rfl
theorem out_mC_B : Statement .out_mC_B := fun _ _ => rfl
theorem sbc_HL_BC : Statement .sbc_HL_BC := fun _ _ => rfl
theorem ld_mnn_BC (nn : Word) : Statement (.ld_mnn_BC nn) := fun _ => ok_word .ld_mnn_BC nn
theorem neg : Statement .neg := fun _ _ => rfl
theorem retn : Statement .retn := fun _ _ => rfl
theorem im_0 : Statement .im_0 := fun _ _ => rfl
theorem ld_I_A : Statement .ld_I_A := fun _ _ => rfl
theorem in_C_mC : Statement .in_C_mC := fun _ _ => rfl
theorem out_mC_C : Statement .out_mC_C := fun _ _ => rfl
theorem adc_HL_BC : Statement .adc_HL_BC := fun _ _ => rfl
theorem ld_BC_mnn (nn : Word) : Statement (.ld_BC_mnn nn) := fun _ => ok_word .ld_BC_mnn nn
theorem reti : Statement .reti := fun _ _ => rfl
theorem ld_R_A : Statement .ld_R_A := fun _ _ => rfl
theorem in_D_mC : Statement .in_D_mC := fun _ _ => rfl
theorem out_mC_D : Statement .out_mC_D := fun _ _ => rfl
theorem sbc_HL_DE : Statement .sbc_HL_DE := fun _ _ => rfl
theorem ld_mnn_DE (nn : Word) : Statement (.ld_mnn_DE nn) := fun _ => ok_word .ld_mnn_DE nn
theorem im_1 : Statement .im_1 := fun _ _ => rfl
theorem ld_A_I : Statement .ld_A_I := fun _ _ => rfl
theorem in_E_mC : Statement .in_E_mC := fun _ _ => rfl
theorem out_mC_E : Statement .out_mC_E := fun _ _ => rfl
theorem adc_HL_DE : Statement .adc_HL_DE := fun _ _ => rfl
theorem ld_DE_mnn (nn : Word) : Statement (.ld_DE_mnn nn) := fun _ => ok_word .ld_DE_mnn nn
theorem im_2 : Statement .im_2 := fun _ _ => rfl
theorem ld_A_R : Statement .ld_A_R := fun _ _ => rfl
theorem in_H_mC : Statement .in_H_mC := fun _ _ => rfl
theorem out_mC_H : Statement .out_mC_H := fun _ _ => rfl
theorem sbc_HL_HL : Statement .sbc_HL_HL := fun _ _ => rfl
theorem ld_mnn_HL_ed (nn : Word) : Statement (.ld_mnn_HL_ed nn) := fun _ => ok_word .ld_mnn_HL_ed nn
theorem rrd : Statement .rrd := fun _ _ => rfl
theorem in_L_mC : Statement .in_L_mC := fun _ _ => rfl
theorem out_mC_L : Statement .out_mC_L := fun _ _ => rfl
theorem adc_HL_HL : Statement .adc_HL_HL := fun _ _ => rfl
theorem ld_HL_mnn_ed (nn : Word) : Statement (.ld_HL_mnn_ed nn) := fun _ => ok_word .ld_HL_mnn_ed nn
theorem rld : Statement .rld := fun _ _ => rfl
theorem sbc_HL_SP : Statement .sbc_HL_SP := fun _ _ => rfl
theorem ld_mnn_SP (nn : Word) : Statement (.ld_mnn_SP nn) := fun _ => ok_word .ld_mnn_SP nn
theorem in_A_mC : Statement .in_A_mC := fun _ _ => rfl
theorem out_mC_A : Statement .out_mC_A := fun _ _ => rfl
theorem adc_HL_SP : Statement .adc_HL_SP := fun _ _ => rfl
theorem ld_SP_mnn (nn : Word) : Statement (.ld_SP_mnn nn) := fun _ => ok_word .ld_SP_mnn nn
theorem ldi : Statement .ldi := fun _ _ => rfl
theorem cpi : Statement .cpi := fun _ _ => rfl
theorem ini : Statement .ini := fun _ _ => rfl
theorem outi : Statement .outi := fun _ _ => rfl
theorem ldd : Statement .ldd := fun _ _ => rfl
theorem cpd : Statement .cpd := fun _ _ => rfl
theorem ind : Statement .ind := fun _ _ => rfl
theorem outd : Statement .outd := fun _ _ => rfl
theorem ldir : Statement .ldir := fun _ _ => rfl
theorem cpir : Statement .cpir := fun _ _ => rfl
theorem inir : Statement .inir := fun _ _ => rfl
theorem otir : Statement .otir := fun _ _ => rfl
theorem lddr : Statement .lddr := fun _ _ => rfl
theorem cpdr : Statement .cpdr := fun _ _ => rfl
theorem indr : Statement .indr := fun _ _ => rfl
theorem otdr : Statement .otdr := fun _ _ => rfl

/-! ### DD layer (R113) -/

theorem add_IX_BC : Statement .add_IX_BC := fun _ _ => rfl
theorem add_IX_DE : Statement .add_IX_DE := fun _ _ => rfl
theorem ld_IX_nn (nn : Word) : Statement (.ld_IX_nn nn) := fun _ => ok_word .ld_IX_nn nn
theorem ld_mnn_IX (nn : Word) : Statement (.ld_mnn_IX nn) := fun _ => ok_word .ld_mnn_IX nn
theorem inc_IX : Statement .inc_IX := fun _ _ => rfl
theorem inc_IXH : Statement .inc_IXH := fun _ _ => rfl
theorem dec_IXH : Statement .dec_IXH := fun _ _ => rfl
theorem ld_IXH_n (n : Byte) : Statement (.ld_IXH_n n) := fun _ _ => rfl
theorem add_IX_IX : Statement .add_IX_IX := fun _ _ => rfl
theorem ld_IX_mnn (nn : Word) : Statement (.ld_IX_mnn nn) := fun _ => ok_word .ld_IX_mnn nn
theorem dec_IX : Statement .dec_IX := fun _ _ => rfl
theorem inc_IXL : Statement .inc_IXL := fun _ _ => rfl
theorem dec_IXL : Statement .dec_IXL := fun _ _ => rfl
theorem ld_IXL_n (n : Byte) : Statement (.ld_IXL_n n) := fun _ _ => rfl
theorem inc_mIXd (d : Int) : Statement (.inc_mIXd d) := ok_signed .inc_mIXd d
theorem dec_mIXd (d : Int) : Statement (.dec_mIXd d) := ok_signed .dec_mIXd d
theorem ld_mIXd_n (d : Int) (n : Byte) : Statement (.ld_mIXd_n d n) := ok_signed (.ld_mIXd_n · n) d
theorem add_IX_SP : Statement .add_IX_SP := fun _ _ => rfl
theorem ld_B_IXH : Statement .ld_B_IXH := fun _ _ => rfl
theorem ld_B_IXL : Statement .ld_B_IXL := fun _ _ => rfl
theorem ld_B_mIXd (d : Int) : Statement (.ld_B_mIXd d) := ok_signed .ld_B_mIXd d
theorem ld_C_IXH : Statement .ld_C_IXH := fun _ _ => rfl
theorem ld_C_IXL : Statement .ld_C_IXL := fun _ _ => rfl
theorem ld_C_mIXd (d : Int) : Statement (.ld_C_mIXd d) := ok_signed .ld_C_mIXd d
theorem ld_D_IXH : Statement .ld_D_IXH := fun _ _ => rfl
theorem ld_D_IXL : Statement .ld_D_IXL := fun _ _ => rfl
theorem ld_D_mIXd (d : Int) : Statement (.ld_D_mIXd d) := ok_signed .ld_D_mIXd d
theorem ld_E_IXH : Statement .ld_E_IXH := fun _ _ => rfl
theorem ld_E_IXL : Statement .ld_E_IXL := fun _ _ => rfl
theorem ld_E_mIXd (d : Int) : Statement (.ld_E_mIXd d) := ok_signed .ld_E_mIXd d
theorem ld_IXH_B : Statement .ld_IXH_B := fun _ _ => rfl
theorem ld_IXH_C : Statement .ld_IXH_C := fun _ _ => rfl
theorem ld_IXH_D : Statement .ld_IXH_D := fun _ _ => rfl
theorem ld_IXH_E : Statement .ld_IXH_E := fun _ _ => rfl
theorem ld_IXH_IXH : Statement .ld_IXH_IXH := fun _ _ => rfl
theorem ld_IXH_IXL : Statement .ld_IXH_IXL := fun _ _ => rfl
theorem ld_H_mIXd (d : Int) : Statement (.ld_H_mIXd d) := ok_signed .ld_H_mIXd d
theorem ld_IXH_A : Statement .ld_IXH_A := fun _ _ => rfl
theorem ld_IXL_B : Statement .ld_IXL_B := fun _ _ => rfl
theorem ld_IXL_C : Statement .ld_IXL_C := fun _ _ => rfl
theorem ld_IXL_D : Statement .ld_IXL_D := fun _ _ => rfl
theorem ld_IXL_E : Statement .ld_IXL_E := fun _ _ => rfl
theorem ld_IXL_IXH : Statement .ld_IXL_IXH := fun _ _ => rfl
theorem ld_IXL_IXL : Statement .ld_IXL_IXL := fun _ _ => rfl
theorem ld_L_mIXd (d : Int) : Statement (.ld_L_mIXd d) := ok_signed .ld_L_mIXd d
theorem ld_IXL_A : Statement .ld_IXL_A := fun _ _ => rfl
theorem ld_mIXd_B (d : Int) : Statement (.ld_mIXd_B d) := ok_signed .ld_mIXd_B d
theorem ld_mIXd_C (d : Int) : Statement (.ld_mIXd_C d) := ok_signed .ld_mIXd_C d
theorem ld_mIXd_D (d : Int) : Statement (.ld_mIXd_D d) := ok_signed .ld_mIXd_D d
theorem ld_mIXd_E (d : Int) : Statement (.ld_mIXd_E d) := ok_signed .ld_mIXd_E d
theorem ld_mIXd_H (d : Int) : Statement (.ld_mIXd_H d) := ok_signed .ld_mIXd_H d
theorem ld_mIXd_L (d : Int) : Statement (.ld_mIXd_L d) := ok_signed .ld_mIXd_L d
theorem ld_mIXd_A (d : Int) : Statement (.ld_mIXd_A d) := ok_signed .ld_mIXd_A d
theorem ld_A_IXH : Statement .ld_A_IXH := fun _ _ => rfl
theorem ld_A_IXL : Statement .ld_A_IXL := fun _ _ => rfl
theorem ld_A_mIXd (d : Int) : Statement (.ld_A_mIXd d) := ok_signed .ld_A_mIXd d
theorem add_A_IXH : Statement .add_A_IXH := fun _ _ => rfl
theorem add_A_IXL : Statement .add_A_IXL := fun _ _ => rfl
theorem add_A_mIXd (d : Int) : Statement (.add_A_mIXd d) := ok_signed .add_A_mIXd d
theorem adc_A_IXH : Statement .adc_A_IXH := fun _ _ => rfl
theorem adc_A_IXL : Statement .adc_A_IXL := fun _ _ => rfl
theorem adc_A_mIXd (d : Int) : Statement (.adc_A_mIXd d) := ok_signed .adc_A_mIXd d
theorem sub_IXH : Statement .sub_IXH := fun _ _ => rfl
theorem sub_IXL : Statement .sub_IXL := fun _ _ => rfl
theorem sub_mIXd (d : Int) : Statement (.sub_mIXd d) := ok_signed .sub_mIXd d
theorem sbc_A_IXH : Statement .sbc_A_IXH := fun _ _ => rfl
theorem sbc_A_IXL : Statement .sbc_A_IXL := fun _ _ => rfl
theorem sbc_A_mIXd (d : Int) : Statement (.sbc_A_mIXd d) := ok_signed .sbc_A_mIXd d
theorem and_IXH : Statement .and_IXH := fun _ _ => rfl
theorem and_IXL : Statement .and_IXL := fun _ _ => rfl
theorem and_mIXd (d : Int) : Statement (.and_mIXd d) := ok_signed .and_mIXd d
theorem xor_IXH : Statement .xor_IXH := fun _ _ => rfl
theorem xor_IXL : Statement .xor_IXL := fun _ _ => rfl
theorem xor_mIXd (d : Int) : Statement (.xor_mIXd d) := ok_signed .xor_mIXd d
theorem or_IXH : Statement .or_IXH := fun _ _ => rfl
theorem or_IXL : Statement .or_IXL := fun _ _ => rfl
theorem or_mIXd (d : Int) : Statement (.or_mIXd d) := ok_signed .or_mIXd d
theorem cp_IXH : Statement .cp_IXH := fun _ _ => rfl
theorem cp_IXL : Statement .cp_IXL := fun _ _ => rfl
theorem cp_mIXd (d : Int) : Statement (.cp_mIXd d) := ok_signed .cp_mIXd d
theorem pop_IX : Statement .pop_IX := fun _ _ => rfl
theorem ex_mSP_IX : Statement .ex_mSP_IX := fun _ _ => rfl
theorem push_IX : Statement .push_IX := fun _ _ => rfl
theorem jp_mIX : Statement .jp_mIX := fun _ _ => rfl
theorem ld_SP_IX : Statement .ld_SP_IX := fun _ _ => rfl

/-! ### DD CB layer (R114) -/

theorem rlc_mIXd (d : Int) : Statement (.rlc_mIXd d) := ok_signed .rlc_mIXd d
theorem rrc_mIXd (d : Int) : Statement (.rrc_mIXd d) := ok_signed .rrc_mIXd d
theorem rl_mIXd (d : Int) : Statement (.rl_mIXd d) := ok_signed .rl_mIXd d
theorem rr_mIXd (d : Int) : Statement (.rr_mIXd d) := ok_signed .rr_mIXd d
theorem sla_mIXd (d : Int) : Statement (.sla_mIXd d) := ok_signed .sla_mIXd d
theorem sra_mIXd (d : Int) : Statement (.sra_mIXd d) := ok_signed .sra_mIXd d
theorem sll_mIXd (d : Int) : Statement (.sll_mIXd d) := ok_signed .sll_mIXd d
theorem srl_mIXd (d : Int) : Statement (.srl_mIXd d) := ok_signed .srl_mIXd d
theorem bit_0_mIXd (d : Int) : Statement (.bit_0_mIXd d) := ok_signed .bit_0_mIXd d
theorem bit_1_mIXd (d : Int) : Statement (.bit_1_mIXd d) := ok_signed .bit_1_mIXd d
theorem bit_2_mIXd (d : Int) : Statement (.bit_2_mIXd d) := ok_signed .bit_2_mIXd d
theorem bit_3_mIXd (d : Int) : Statement (.bit_3_mIXd d) := ok_signed .bit_3_mIXd d
theorem bit_4_mIXd (d : Int) : Statement (.bit_4_mIXd d) := ok_signed .bit_4_mIXd d
theorem bit_5_mIXd (d : Int) : Statement (.bit_5_mIXd d) := ok_signed .bit_5_mIXd d
theorem bit_6_mIXd (d : Int) : Statement (.bit_6_mIXd d) := ok_signed .bit_6_mIXd d
theorem bit_7_mIXd (d : Int) : Statement (.bit_7_mIXd d) := ok_signed .bit_7_mIXd d
theorem res_0_mIXd (d : Int) : Statement (.res_0_mIXd d) := ok_signed .res_0_mIXd d
theorem res_1_mIXd (d : Int) : Statement (.res_1_mIXd d) := ok_signed .res_1_mIXd d
theorem res_2_mIXd (d : Int) : Statement (.res_2_mIXd d) := ok_signed .res_2_mIXd d
theorem res_3_mIXd (d : Int) : Statement (.res_3_mIXd d) := ok_signed .res_3_mIXd d
theorem res_4_mIXd (d : Int) : Statement (.res_4_mIXd d) := ok_signed .res_4_mIXd d
theorem res_5_mIXd (d : Int) : Statement (.res_5_mIXd d) := ok_signed .res_5_mIXd d
theorem res_6_mIXd (d : Int) : Statement (.res_6_mIXd d) := ok_signed .res_6_mIXd d
theorem res_7_mIXd (d : Int) : Statement (.res_7_mIXd d) := ok_signed .res_7_mIXd d
theorem set_0_mIXd (d : Int) : Statement (.set_0_mIXd d) := ok_signed .set_0_mIXd d
theorem set_1_mIXd (d : Int) : Statement (.set_1_mIXd d) := ok_signed .set_1_mIXd d
theorem set_2_mIXd (d : Int) : Statement (.set_2_mIXd d) := ok_signed .set_2_mIXd d
theorem set_3_mIXd (d : Int) : Statement (.set_3_mIXd d) := ok_signed .set_3_mIXd d
theorem set_4_mIXd (d : Int) : Statement (.set_4_mIXd d) := ok_signed .set_4_mIXd d
theorem set_5_mIXd (d : Int) : Statement (.set_5_mIXd d) := ok_signed .set_5_mIXd d
theorem set_6_mIXd (d : Int) : Statement (.set_6_mIXd d) := ok_signed .set_6_mIXd d
theorem set_7_mIXd (d : Int) : Statement (.set_7_mIXd d) := ok_signed .set_7_mIXd d

/-! ### FD layer (R113) -/

theorem add_IY_BC : Statement .add_IY_BC := fun _ _ => rfl
theorem add_IY_DE : Statement .add_IY_DE := fun _ _ => rfl
theorem ld_IY_nn (nn : Word) : Statement (.ld_IY_nn nn) := fun _ => ok_word .ld_IY_nn nn
theorem ld_mnn_IY (nn : Word) : Statement (.ld_mnn_IY nn) := fun _ => ok_word .ld_mnn_IY nn
theorem inc_IY : Statement .inc_IY := fun _ _ => rfl
theorem inc_IYH : Statement .inc_IYH := fun _ _ => rfl
theorem dec_IYH : Statement .dec_IYH := fun _ _ => rfl
theorem ld_IYH_n (n : Byte) : Statement (.ld_IYH_n n) := fun _ _ => rfl
theorem add_IY_IY : Statement .add_IY_IY := fun _ _ => rfl
theorem ld_IY_mnn (nn : Word) : Statement (.ld_IY_mnn nn) := fun _ => ok_word .ld_IY_mnn nn
theorem dec_IY : Statement .dec_IY := fun _ _ => rfl
theorem inc_IYL : Statement .inc_IYL := fun _ _ => rfl
theorem dec_IYL : Statement .dec_IYL := fun _ _ => rfl
theorem ld_IYL_n (n : Byte) : Statement (.ld_IYL_n n) := fun _ _ => rfl
theorem inc_mIYd (d : Int) : Statement (.inc_mIYd d) := ok_signed .inc_mIYd d
theorem dec_mIYd (d : Int) : Statement (.dec_mIYd d) := ok_signed .dec_mIYd d
theorem ld_mIYd_n (d : Int) (n : Byte) : Statement (.ld_mIYd_n d n) := ok_signed (.ld_mIYd_n · n) d
theorem add_IY_SP : Statement .add_IY_SP := fun _ _ => rfl
theorem ld_B_IYH : Statement .ld_B_IYH := fun _ _ => rfl
theorem ld_B_IYL : Statement .ld_B_IYL := fun _ _ => rfl
theorem ld_B_mIYd (d : Int) : Statement (.ld_B_mIYd d) := ok_signed .ld_B_mIYd d
theorem ld_C_IYH : Statement .ld_C_IYH := fun _ _ => rfl
theorem ld_C_IYL : Statement .ld_C_IYL := fun _ _ => rfl
theorem ld_C_mIYd (d : Int) : Statement (.ld_C_mIYd d) := ok_signed .ld_C_mIYd d
theorem ld_D_IYH : Statement .ld_D_IYH := fun _ _ => rfl
theorem ld_D_IYL : Statement .ld_D_IYL := fun _ _ => rfl
theorem ld_D_mIYd (d : Int) : Statement (.ld_D_mIYd d) := ok_signed .ld_D_mIYd d
theorem ld_E_IYH : Statement .ld_E_IYH := fun _ _ => rfl
theorem ld_E_IYL : Statement .ld_E_IYL := fun _ _ => rfl
theorem ld_E_mIYd (d : Int) : Statement (.ld_E_mIYd d) := ok_signed .ld_E_mIYd d
theorem ld_IYH_B : Statement .ld_IYH_B := fun _ _ => rfl
theorem ld_IYH_C : Statement .ld_IYH_C := fun _ _ => rfl
theorem ld_IYH_D : Statement .ld_IYH_D := fun _ _ => rfl
theorem ld_IYH_E : Statement .ld_IYH_E := fun _ _ => rfl
theorem ld_IYH_IYH : Statement .ld_IYH_IYH := fun _ _ => rfl
theorem ld_IYH_IYL : Statement .ld_IYH_IYL := fun _ _ => rfl
theorem ld_H_mIYd (d : Int) : Statement (.ld_H_mIYd d) := ok_signed .ld_H_mIYd d
theorem ld_IYH_A : Statement .ld_IYH_A := fun _ _ => rfl
theorem ld_IYL_B : Statement .ld_IYL_B := fun _ _ => rfl
theorem ld_IYL_C : Statement .ld_IYL_C := fun _ _ => rfl
theorem ld_IYL_D : Statement .ld_IYL_D := fun _ _ => rfl
theorem ld_IYL_E : Statement .ld_IYL_E := fun _ _ => rfl
theorem ld_IYL_IYH : Statement .ld_IYL_IYH := fun _ _ => rfl
theorem ld_IYL_IYL : Statement .ld_IYL_IYL := fun _ _ => rfl
theorem ld_L_mIYd (d : Int) : Statement (.ld_L_mIYd d) := ok_signed .ld_L_mIYd d
theorem ld_IYL_A : Statement .ld_IYL_A := fun _ _ => rfl
theorem ld_mIYd_B (d : Int) : Statement (.ld_mIYd_B d) := ok_signed .ld_mIYd_B d
theorem ld_mIYd_C (d : Int) : Statement (.ld_mIYd_C d) := ok_signed .ld_mIYd_C d
theorem ld_mIYd_D (d : Int) : Statement (.ld_mIYd_D d) := ok_signed .ld_mIYd_D d
theorem ld_mIYd_E (d : Int) : Statement (.ld_mIYd_E d) := ok_signed .ld_mIYd_E d
theorem ld_mIYd_H (d : Int) : Statement (.ld_mIYd_H d) := ok_signed .ld_mIYd_H d
theorem ld_mIYd_L (d : Int) : Statement (.ld_mIYd_L d) := ok_signed .ld_mIYd_L d
theorem ld_mIYd_A (d : Int) : Statement (.ld_mIYd_A d) := ok_signed .ld_mIYd_A d
theorem ld_A_IYH : Statement .ld_A_IYH := fun _ _ => rfl
theorem ld_A_IYL : Statement .ld_A_IYL := fun _ _ => rfl
theorem ld_A_mIYd (d : Int) : Statement (.ld_A_mIYd d) := ok_signed .ld_A_mIYd d
theorem add_A_IYH : Statement .add_A_IYH := fun _ _ => rfl
theorem add_A_IYL : Statement .add_A_IYL := fun _ _ => rfl
theorem add_A_mIYd (d : Int) : Statement (.add_A_mIYd d) := ok_signed .add_A_mIYd d
theorem adc_A_IYH : Statement .adc_A_IYH := fun _ _ => rfl
theorem adc_A_IYL : Statement .adc_A_IYL := fun _ _ => rfl
theorem adc_A_mIYd (d : Int) : Statement (.adc_A_mIYd d) := ok_signed .adc_A_mIYd d
theorem sub_IYH : Statement .sub_IYH := fun _ _ => rfl
theorem sub_IYL : Statement .sub_IYL := fun _ _ => rfl
theorem sub_mIYd (d : Int) : Statement (.sub_mIYd d) := ok_signed .sub_mIYd d
theorem sbc_A_IYH : Statement .sbc_A_IYH := fun _ _ => rfl
theorem sbc_A_IYL : Statement .sbc_A_IYL := fun _ _ => rfl
theorem sbc_A_mIYd (d : Int) : Statement (.sbc_A_mIYd d) := ok_signed .sbc_A_mIYd d
theorem and_IYH : Statement .and_IYH := fun _ _ => rfl
theorem and_IYL : Statement .and_IYL := fun _ _ => rfl
theorem and_mIYd (d : Int) : Statement (.and_mIYd d) := ok_signed .and_mIYd d
theorem xor_IYH : Statement .xor_IYH := fun _ _ => rfl
theorem xor_IYL : Statement .xor_IYL := fun _ _ => rfl
theorem xor_mIYd (d : Int) : Statement (.xor_mIYd d) := ok_signed .xor_mIYd d
theorem or_IYH : Statement .or_IYH := fun _ _ => rfl
theorem or_IYL : Statement .or_IYL := fun _ _ => rfl
theorem or_mIYd (d : Int) : Statement (.or_mIYd d) := ok_signed .or_mIYd d
theorem cp_IYH : Statement .cp_IYH := fun _ _ => rfl
theorem cp_IYL : Statement .cp_IYL := fun _ _ => rfl
theorem cp_mIYd (d : Int) : Statement (.cp_mIYd d) := ok_signed .cp_mIYd d
theorem pop_IY : Statement .pop_IY := fun _ _ => rfl
theorem ex_mSP_IY : Statement .ex_mSP_IY := fun _ _ => rfl
theorem push_IY : Statement .push_IY := fun _ _ => rfl
theorem jp_mIY : Statement .jp_mIY := fun _ _ => rfl
theorem ld_SP_IY : Statement .ld_SP_IY := fun _ _ => rfl

/-! ### FD CB layer (R114) -/

theorem rlc_mIYd (d : Int) : Statement (.rlc_mIYd d) := ok_signed .rlc_mIYd d
theorem rrc_mIYd (d : Int) : Statement (.rrc_mIYd d) := ok_signed .rrc_mIYd d
theorem rl_mIYd (d : Int) : Statement (.rl_mIYd d) := ok_signed .rl_mIYd d
theorem rr_mIYd (d : Int) : Statement (.rr_mIYd d) := ok_signed .rr_mIYd d
theorem sla_mIYd (d : Int) : Statement (.sla_mIYd d) := ok_signed .sla_mIYd d
theorem sra_mIYd (d : Int) : Statement (.sra_mIYd d) := ok_signed .sra_mIYd d
theorem sll_mIYd (d : Int) : Statement (.sll_mIYd d) := ok_signed .sll_mIYd d
theorem srl_mIYd (d : Int) : Statement (.srl_mIYd d) := ok_signed .srl_mIYd d
theorem bit_0_mIYd (d : Int) : Statement (.bit_0_mIYd d) := ok_signed .bit_0_mIYd d
theorem bit_1_mIYd (d : Int) : Statement (.bit_1_mIYd d) := ok_signed .bit_1_mIYd d
theorem bit_2_mIYd (d : Int) : Statement (.bit_2_mIYd d) := ok_signed .bit_2_mIYd d
theorem bit_3_mIYd (d : Int) : Statement (.bit_3_mIYd d) := ok_signed .bit_3_mIYd d
theorem bit_4_mIYd (d : Int) : Statement (.bit_4_mIYd d) := ok_signed .bit_4_mIYd d
theorem bit_5_mIYd (d : Int) : Statement (.bit_5_mIYd d) := ok_signed .bit_5_mIYd d
theorem bit_6_mIYd (d : Int) : Statement (.bit_6_mIYd d) := ok_signed .bit_6_mIYd d
theorem bit_7_mIYd (d : Int) : Statement (.bit_7_mIYd d) := ok_signed .bit_7_mIYd d
theorem res_0_mIYd (d : Int) : Statement (.res_0_mIYd d) := ok_signed .res_0_mIYd d
theorem res_1_mIYd (d : Int) : Statement (.res_1_mIYd d) := ok_signed .res_1_mIYd d
theorem res_2_mIYd (d : Int) : Statement (.res_2_mIYd d) := ok_signed .res_2_mIYd d
theorem res_3_mIYd (d : Int) : Statement (.res_3_mIYd d) := ok_signed .res_3_mIYd d
theorem res_4_mIYd (d : Int) : Statement (.res_4_mIYd d) := ok_signed .res_4_mIYd d
theorem res_5_mIYd (d : Int) : Statement (.res_5_mIYd d) := ok_signed .res_5_mIYd d
theorem res_6_mIYd (d : Int) : Statement (.res_6_mIYd d) := ok_signed .res_6_mIYd d
theorem res_7_mIYd (d : Int) : Statement (.res_7_mIYd d) := ok_signed .res_7_mIYd d
theorem set_0_mIYd (d : Int) : Statement (.set_0_mIYd d) := ok_signed .set_0_mIYd d
theorem set_1_mIYd (d : Int) : Statement (.set_1_mIYd d) := ok_signed .set_1_mIYd d
theorem set_2_mIYd (d : Int) : Statement (.set_2_mIYd d) := ok_signed .set_2_mIYd d
theorem set_3_mIYd (d : Int) : Statement (.set_3_mIYd d) := ok_signed .set_3_mIYd d
theorem set_4_mIYd (d : Int) : Statement (.set_4_mIYd d) := ok_signed .set_4_mIYd d
theorem set_5_mIYd (d : Int) : Statement (.set_5_mIYd d) := ok_signed .set_5_mIYd d
theorem set_6_mIYd (d : Int) : Statement (.set_6_mIYd d) := ok_signed .set_6_mIYd d
theorem set_7_mIYd (d : Int) : Statement (.set_7_mIYd d) := ok_signed .set_7_mIYd d

end Sys2Proof.Laws.RoundTrip
end

