-- ==== Sys2Proof/Tests/Slice0.lean ====
section
/-! SUPPORT. The model's own tests, each a named theorem: ill-formed terms that the check refuses; the bytes of every row of
spec/opcode_table.json and the instruction each decodes to; single steps with the start and end states of spec/95_test_vectors.md
(test_V<n> is its vector V<n>); and a witness for every statement that has hypotheses. -/

namespace Sys2Proof.Tests.Slice0

open Sys2Proof Sys2Proof.Machine Sys2Proof.Safety Sys2Proof.Claims

/-! ## Helpers -/

/-- The decoder reads `i` from exactly these bytes. -/
def decodesTo (bs : List Byte) (i : Instr) : Bool :=
  match decode bs with
  | .ok (j, []) => decide (j = i)
  | .ok (_, _ :: _) => false
  | .error _ => false

def decodesAll (rows : List (List Byte × Instr)) : Bool := rows.all (fun r => decodesTo r.1 r.2)

/-- Bytes put in memory from `a` on, and PC there. -/
def code (a : Word) (bs : List Byte) (s : State) : State := { s with PC := a }.pokeList a bs

/-- Bytes put in memory. -/
def put (cells : List (Word × Byte)) (s : State) : State := cells.foldl (fun s c => s.poke c.1 c.2) s

/-- One step answers a next state with this property. -/
def ends (s : State) (p : State → Bool) : Bool :=
  match step s with
  | .next t => p t
  | .fault _ => false
  | .refused _ => false

/-- The error a step reports. -/
def reportOf (s : State) : Option Fault :=
  match step s with
  | .next t => t.report
  | .fault _ => none
  | .refused _ => none

/-- The bytes of the DecodeError that a step at these bytes reports. -/
def decodeErrorOf (bs : List Byte) : Option (List Byte) :=
  match reportOf (code 0x1000 bs State.reset) with
  | some (.decodeError _ b) => some b
  | some (.invalidConditionCode _) => none
  | some (.invalidInterruptMode _) => none
  | none => none

/-! ## Ill-formed terms are refused (30_encoding.md R104) -/

theorem test_ill_formed_offset_high : (Instr.jr_e 128).wellFormed = false := by decide
theorem test_ill_formed_offset_low : (Instr.djnz_e (-129)).wellFormed = false := by decide
theorem test_ill_formed_displacement_high : (Instr.bit_5_mIXd 128).wellFormed = false := by decide
theorem test_ill_formed_displacement_low : (Instr.ld_mIYd_n (-129) 0x00).wellFormed = false := by decide
theorem test_well_formed_bounds : (Instr.jr_e 127).wellFormed = true ∧ (Instr.ld_mIXd_n (-128) 0xFF).wellFormed = true := by decide

/-! ## Every row of the opcode table: its bytes, and the instruction they decode to (n = 5A, nn = 1234, d = FE is -2, e = 80 is
-128; R104) -/

theorem test_decode_base_00 : decodesAll [
    ([0x00], .nop), ([0x01, 0x34, 0x12], .ld_BC_nn 0x1234), ([0x02], .ld_mBC_A), ([0x03], .inc_BC), ([0x04], .inc_B),
    ([0x05], .dec_B), ([0x06, 0x5A], .ld_B_n 0x5A), ([0x07], .rlca), ([0x08], .ex_AF_AF), ([0x09], .add_HL_BC),
    ([0x0A], .ld_A_mBC), ([0x0B], .dec_BC), ([0x0C], .inc_C), ([0x0D], .dec_C), ([0x0E, 0x5A], .ld_C_n 0x5A), ([0x0F], .rrca)] = true := by decide

theorem test_decode_base_10 : decodesAll [
    ([0x10, 0x80], .djnz_e (-128)), ([0x11, 0x34, 0x12], .ld_DE_nn 0x1234), ([0x12], .ld_mDE_A), ([0x13], .inc_DE),
    ([0x14], .inc_D), ([0x15], .dec_D), ([0x16, 0x5A], .ld_D_n 0x5A), ([0x17], .rla), ([0x18, 0x80], .jr_e (-128)),
    ([0x19], .add_HL_DE), ([0x1A], .ld_A_mDE), ([0x1B], .dec_DE), ([0x1C], .inc_E), ([0x1D], .dec_E),
    ([0x1E, 0x5A], .ld_E_n 0x5A), ([0x1F], .rra)] = true := by decide

theorem test_decode_base_20 : decodesAll [
    ([0x20, 0x80], .jr_NZ_e (-128)), ([0x21, 0x34, 0x12], .ld_HL_nn 0x1234), ([0x22, 0x34, 0x12], .ld_mnn_HL 0x1234),
    ([0x23], .inc_HL), ([0x24], .inc_H), ([0x25], .dec_H), ([0x26, 0x5A], .ld_H_n 0x5A), ([0x27], .daa),
    ([0x28, 0x80], .jr_Z_e (-128)), ([0x29], .add_HL_HL), ([0x2A, 0x34, 0x12], .ld_HL_mnn 0x1234), ([0x2B], .dec_HL),
    ([0x2C], .inc_L), ([0x2D], .dec_L), ([0x2E, 0x5A], .ld_L_n 0x5A), ([0x2F], .cpl)] = true := by decide

theorem test_decode_base_30 : decodesAll [
    ([0x30, 0x80], .jr_NC_e (-128)), ([0x31, 0x34, 0x12], .ld_SP_nn 0x1234), ([0x32, 0x34, 0x12], .ld_mnn_A 0x1234),
    ([0x33], .inc_SP), ([0x34], .inc_mHL), ([0x35], .dec_mHL), ([0x36, 0x5A], .ld_mHL_n 0x5A), ([0x37], .scf),
    ([0x38, 0x80], .jr_C_e (-128)), ([0x39], .add_HL_SP), ([0x3A, 0x34, 0x12], .ld_A_mnn 0x1234), ([0x3B], .dec_SP),
    ([0x3C], .inc_A), ([0x3D], .dec_A), ([0x3E, 0x5A], .ld_A_n 0x5A), ([0x3F], .ccf)] = true := by decide

theorem test_decode_base_40 : decodesAll [
    ([0x40], .ld_B_B), ([0x41], .ld_B_C), ([0x42], .ld_B_D), ([0x43], .ld_B_E), ([0x44], .ld_B_H), ([0x45], .ld_B_L),
    ([0x46], .ld_B_mHL), ([0x47], .ld_B_A), ([0x48], .ld_C_B), ([0x49], .ld_C_C), ([0x4A], .ld_C_D), ([0x4B], .ld_C_E),
    ([0x4C], .ld_C_H), ([0x4D], .ld_C_L), ([0x4E], .ld_C_mHL), ([0x4F], .ld_C_A)] = true := by decide

theorem test_decode_base_50 : decodesAll [
    ([0x50], .ld_D_B), ([0x51], .ld_D_C), ([0x52], .ld_D_D), ([0x53], .ld_D_E), ([0x54], .ld_D_H), ([0x55], .ld_D_L),
    ([0x56], .ld_D_mHL), ([0x57], .ld_D_A), ([0x58], .ld_E_B), ([0x59], .ld_E_C), ([0x5A], .ld_E_D), ([0x5B], .ld_E_E),
    ([0x5C], .ld_E_H), ([0x5D], .ld_E_L), ([0x5E], .ld_E_mHL), ([0x5F], .ld_E_A)] = true := by decide

theorem test_decode_base_60 : decodesAll [
    ([0x60], .ld_H_B), ([0x61], .ld_H_C), ([0x62], .ld_H_D), ([0x63], .ld_H_E), ([0x64], .ld_H_H), ([0x65], .ld_H_L),
    ([0x66], .ld_H_mHL), ([0x67], .ld_H_A), ([0x68], .ld_L_B), ([0x69], .ld_L_C), ([0x6A], .ld_L_D), ([0x6B], .ld_L_E),
    ([0x6C], .ld_L_H), ([0x6D], .ld_L_L), ([0x6E], .ld_L_mHL), ([0x6F], .ld_L_A)] = true := by decide

theorem test_decode_base_70 : decodesAll [
    ([0x70], .ld_mHL_B), ([0x71], .ld_mHL_C), ([0x72], .ld_mHL_D), ([0x73], .ld_mHL_E), ([0x74], .ld_mHL_H),
    ([0x75], .ld_mHL_L), ([0x76], .halt), ([0x77], .ld_mHL_A), ([0x78], .ld_A_B), ([0x79], .ld_A_C), ([0x7A], .ld_A_D),
    ([0x7B], .ld_A_E), ([0x7C], .ld_A_H), ([0x7D], .ld_A_L), ([0x7E], .ld_A_mHL), ([0x7F], .ld_A_A)] = true := by decide

theorem test_decode_base_80 : decodesAll [
    ([0x80], .add_A_B), ([0x81], .add_A_C), ([0x82], .add_A_D), ([0x83], .add_A_E), ([0x84], .add_A_H), ([0x85], .add_A_L),
    ([0x86], .add_A_mHL), ([0x87], .add_A_A), ([0x88], .adc_A_B), ([0x89], .adc_A_C), ([0x8A], .adc_A_D), ([0x8B], .adc_A_E),
    ([0x8C], .adc_A_H), ([0x8D], .adc_A_L), ([0x8E], .adc_A_mHL), ([0x8F], .adc_A_A)] = true := by decide

theorem test_decode_base_90 : decodesAll [
    ([0x90], .sub_B), ([0x91], .sub_C), ([0x92], .sub_D), ([0x93], .sub_E), ([0x94], .sub_H), ([0x95], .sub_L),
    ([0x96], .sub_mHL), ([0x97], .sub_A), ([0x98], .sbc_A_B), ([0x99], .sbc_A_C), ([0x9A], .sbc_A_D), ([0x9B], .sbc_A_E),
    ([0x9C], .sbc_A_H), ([0x9D], .sbc_A_L), ([0x9E], .sbc_A_mHL), ([0x9F], .sbc_A_A)] = true := by decide

theorem test_decode_base_A0 : decodesAll [
    ([0xA0], .and_B), ([0xA1], .and_C), ([0xA2], .and_D), ([0xA3], .and_E), ([0xA4], .and_H), ([0xA5], .and_L),
    ([0xA6], .and_mHL), ([0xA7], .and_A), ([0xA8], .xor_B), ([0xA9], .xor_C), ([0xAA], .xor_D), ([0xAB], .xor_E),
    ([0xAC], .xor_H), ([0xAD], .xor_L), ([0xAE], .xor_mHL), ([0xAF], .xor_A)] = true := by decide

theorem test_decode_base_B0 : decodesAll [
    ([0xB0], .or_B), ([0xB1], .or_C), ([0xB2], .or_D), ([0xB3], .or_E), ([0xB4], .or_H), ([0xB5], .or_L), ([0xB6], .or_mHL),
    ([0xB7], .or_A), ([0xB8], .cp_B), ([0xB9], .cp_C), ([0xBA], .cp_D), ([0xBB], .cp_E), ([0xBC], .cp_H), ([0xBD], .cp_L),
    ([0xBE], .cp_mHL), ([0xBF], .cp_A)] = true := by decide

theorem test_decode_base_C0 : decodesAll [
    ([0xC0], .ret_NZ), ([0xC1], .pop_BC), ([0xC2, 0x34, 0x12], .jp_NZ_nn 0x1234), ([0xC3, 0x34, 0x12], .jp_nn 0x1234),
    ([0xC4, 0x34, 0x12], .call_NZ_nn 0x1234), ([0xC5], .push_BC), ([0xC6, 0x5A], .add_A_n 0x5A), ([0xC7], .rst_00),
    ([0xC8], .ret_Z), ([0xC9], .ret), ([0xCA, 0x34, 0x12], .jp_Z_nn 0x1234), ([0xCC, 0x34, 0x12], .call_Z_nn 0x1234),
    ([0xCD, 0x34, 0x12], .call_nn 0x1234), ([0xCE, 0x5A], .adc_A_n 0x5A), ([0xCF], .rst_08), ([0xD0], .ret_NC)] = true := by decide

theorem test_decode_base_D1 : decodesAll [
    ([0xD1], .pop_DE), ([0xD2, 0x34, 0x12], .jp_NC_nn 0x1234), ([0xD3, 0x5A], .out_mn_A 0x5A),
    ([0xD4, 0x34, 0x12], .call_NC_nn 0x1234), ([0xD5], .push_DE), ([0xD6, 0x5A], .sub_n 0x5A), ([0xD7], .rst_10),
    ([0xD8], .ret_C), ([0xD9], .exx), ([0xDA, 0x34, 0x12], .jp_C_nn 0x1234), ([0xDB, 0x5A], .in_A_mn 0x5A),
    ([0xDC, 0x34, 0x12], .call_C_nn 0x1234), ([0xDE, 0x5A], .sbc_A_n 0x5A), ([0xDF], .rst_18), ([0xE0], .ret_PO),
    ([0xE1], .pop_HL)] = true := by decide

theorem test_decode_base_E2 : decodesAll [
    ([0xE2, 0x34, 0x12], .jp_PO_nn 0x1234), ([0xE3], .ex_mSP_HL), ([0xE4, 0x34, 0x12], .call_PO_nn 0x1234),
    ([0xE5], .push_HL), ([0xE6, 0x5A], .and_n 0x5A), ([0xE7], .rst_20), ([0xE8], .ret_PE), ([0xE9], .jp_mHL),
    ([0xEA, 0x34, 0x12], .jp_PE_nn 0x1234), ([0xEB], .ex_DE_HL), ([0xEC, 0x34, 0x12], .call_PE_nn 0x1234),
    ([0xEE, 0x5A], .xor_n 0x5A), ([0xEF], .rst_28), ([0xF0], .ret_P), ([0xF1], .pop_AF),
    ([0xF2, 0x34, 0x12], .jp_P_nn 0x1234)] = true := by decide

theorem test_decode_base_F3 : decodesAll [
    ([0xF3], .di), ([0xF4, 0x34, 0x12], .call_P_nn 0x1234), ([0xF5], .push_AF), ([0xF6, 0x5A], .or_n 0x5A),
    ([0xF7], .rst_30), ([0xF8], .ret_M), ([0xF9], .ld_SP_HL), ([0xFA, 0x34, 0x12], .jp_M_nn 0x1234), ([0xFB], .ei),
    ([0xFC, 0x34, 0x12], .call_M_nn 0x1234), ([0xFE, 0x5A], .cp_n 0x5A), ([0xFF], .rst_38)] = true := by decide

theorem test_decode_cb_00 : decodesAll [
    ([0xCB, 0x00], .rlc_B), ([0xCB, 0x01], .rlc_C), ([0xCB, 0x02], .rlc_D), ([0xCB, 0x03], .rlc_E), ([0xCB, 0x04], .rlc_H),
    ([0xCB, 0x05], .rlc_L), ([0xCB, 0x06], .rlc_mHL), ([0xCB, 0x07], .rlc_A), ([0xCB, 0x08], .rrc_B), ([0xCB, 0x09], .rrc_C),
    ([0xCB, 0x0A], .rrc_D), ([0xCB, 0x0B], .rrc_E), ([0xCB, 0x0C], .rrc_H), ([0xCB, 0x0D], .rrc_L), ([0xCB, 0x0E], .rrc_mHL),
    ([0xCB, 0x0F], .rrc_A)] = true := by decide

theorem test_decode_cb_10 : decodesAll [
    ([0xCB, 0x10], .rl_B), ([0xCB, 0x11], .rl_C), ([0xCB, 0x12], .rl_D), ([0xCB, 0x13], .rl_E), ([0xCB, 0x14], .rl_H),
    ([0xCB, 0x15], .rl_L), ([0xCB, 0x16], .rl_mHL), ([0xCB, 0x17], .rl_A), ([0xCB, 0x18], .rr_B), ([0xCB, 0x19], .rr_C),
    ([0xCB, 0x1A], .rr_D), ([0xCB, 0x1B], .rr_E), ([0xCB, 0x1C], .rr_H), ([0xCB, 0x1D], .rr_L), ([0xCB, 0x1E], .rr_mHL),
    ([0xCB, 0x1F], .rr_A)] = true := by decide

theorem test_decode_cb_20 : decodesAll [
    ([0xCB, 0x20], .sla_B), ([0xCB, 0x21], .sla_C), ([0xCB, 0x22], .sla_D), ([0xCB, 0x23], .sla_E), ([0xCB, 0x24], .sla_H),
    ([0xCB, 0x25], .sla_L), ([0xCB, 0x26], .sla_mHL), ([0xCB, 0x27], .sla_A), ([0xCB, 0x28], .sra_B), ([0xCB, 0x29], .sra_C),
    ([0xCB, 0x2A], .sra_D), ([0xCB, 0x2B], .sra_E), ([0xCB, 0x2C], .sra_H), ([0xCB, 0x2D], .sra_L), ([0xCB, 0x2E], .sra_mHL),
    ([0xCB, 0x2F], .sra_A)] = true := by decide

theorem test_decode_cb_30 : decodesAll [
    ([0xCB, 0x30], .sll_B), ([0xCB, 0x31], .sll_C), ([0xCB, 0x32], .sll_D), ([0xCB, 0x33], .sll_E), ([0xCB, 0x34], .sll_H),
    ([0xCB, 0x35], .sll_L), ([0xCB, 0x36], .sll_mHL), ([0xCB, 0x37], .sll_A), ([0xCB, 0x38], .srl_B), ([0xCB, 0x39], .srl_C),
    ([0xCB, 0x3A], .srl_D), ([0xCB, 0x3B], .srl_E), ([0xCB, 0x3C], .srl_H), ([0xCB, 0x3D], .srl_L), ([0xCB, 0x3E], .srl_mHL),
    ([0xCB, 0x3F], .srl_A)] = true := by decide

theorem test_decode_cb_40 : decodesAll [
    ([0xCB, 0x40], .bit_0_B), ([0xCB, 0x41], .bit_0_C), ([0xCB, 0x42], .bit_0_D), ([0xCB, 0x43], .bit_0_E),
    ([0xCB, 0x44], .bit_0_H), ([0xCB, 0x45], .bit_0_L), ([0xCB, 0x46], .bit_0_mHL), ([0xCB, 0x47], .bit_0_A),
    ([0xCB, 0x48], .bit_1_B), ([0xCB, 0x49], .bit_1_C), ([0xCB, 0x4A], .bit_1_D), ([0xCB, 0x4B], .bit_1_E),
    ([0xCB, 0x4C], .bit_1_H), ([0xCB, 0x4D], .bit_1_L), ([0xCB, 0x4E], .bit_1_mHL), ([0xCB, 0x4F], .bit_1_A)] = true := by decide

theorem test_decode_cb_50 : decodesAll [
    ([0xCB, 0x50], .bit_2_B), ([0xCB, 0x51], .bit_2_C), ([0xCB, 0x52], .bit_2_D), ([0xCB, 0x53], .bit_2_E),
    ([0xCB, 0x54], .bit_2_H), ([0xCB, 0x55], .bit_2_L), ([0xCB, 0x56], .bit_2_mHL), ([0xCB, 0x57], .bit_2_A),
    ([0xCB, 0x58], .bit_3_B), ([0xCB, 0x59], .bit_3_C), ([0xCB, 0x5A], .bit_3_D), ([0xCB, 0x5B], .bit_3_E),
    ([0xCB, 0x5C], .bit_3_H), ([0xCB, 0x5D], .bit_3_L), ([0xCB, 0x5E], .bit_3_mHL), ([0xCB, 0x5F], .bit_3_A)] = true := by decide

theorem test_decode_cb_60 : decodesAll [
    ([0xCB, 0x60], .bit_4_B), ([0xCB, 0x61], .bit_4_C), ([0xCB, 0x62], .bit_4_D), ([0xCB, 0x63], .bit_4_E),
    ([0xCB, 0x64], .bit_4_H), ([0xCB, 0x65], .bit_4_L), ([0xCB, 0x66], .bit_4_mHL), ([0xCB, 0x67], .bit_4_A),
    ([0xCB, 0x68], .bit_5_B), ([0xCB, 0x69], .bit_5_C), ([0xCB, 0x6A], .bit_5_D), ([0xCB, 0x6B], .bit_5_E),
    ([0xCB, 0x6C], .bit_5_H), ([0xCB, 0x6D], .bit_5_L), ([0xCB, 0x6E], .bit_5_mHL), ([0xCB, 0x6F], .bit_5_A)] = true := by decide

theorem test_decode_cb_70 : decodesAll [
    ([0xCB, 0x70], .bit_6_B), ([0xCB, 0x71], .bit_6_C), ([0xCB, 0x72], .bit_6_D), ([0xCB, 0x73], .bit_6_E),
    ([0xCB, 0x74], .bit_6_H), ([0xCB, 0x75], .bit_6_L), ([0xCB, 0x76], .bit_6_mHL), ([0xCB, 0x77], .bit_6_A),
    ([0xCB, 0x78], .bit_7_B), ([0xCB, 0x79], .bit_7_C), ([0xCB, 0x7A], .bit_7_D), ([0xCB, 0x7B], .bit_7_E),
    ([0xCB, 0x7C], .bit_7_H), ([0xCB, 0x7D], .bit_7_L), ([0xCB, 0x7E], .bit_7_mHL), ([0xCB, 0x7F], .bit_7_A)] = true := by decide

theorem test_decode_cb_80 : decodesAll [
    ([0xCB, 0x80], .res_0_B), ([0xCB, 0x81], .res_0_C), ([0xCB, 0x82], .res_0_D), ([0xCB, 0x83], .res_0_E),
    ([0xCB, 0x84], .res_0_H), ([0xCB, 0x85], .res_0_L), ([0xCB, 0x86], .res_0_mHL), ([0xCB, 0x87], .res_0_A),
    ([0xCB, 0x88], .res_1_B), ([0xCB, 0x89], .res_1_C), ([0xCB, 0x8A], .res_1_D), ([0xCB, 0x8B], .res_1_E),
    ([0xCB, 0x8C], .res_1_H), ([0xCB, 0x8D], .res_1_L), ([0xCB, 0x8E], .res_1_mHL), ([0xCB, 0x8F], .res_1_A)] = true := by decide

theorem test_decode_cb_90 : decodesAll [
    ([0xCB, 0x90], .res_2_B), ([0xCB, 0x91], .res_2_C), ([0xCB, 0x92], .res_2_D), ([0xCB, 0x93], .res_2_E),
    ([0xCB, 0x94], .res_2_H), ([0xCB, 0x95], .res_2_L), ([0xCB, 0x96], .res_2_mHL), ([0xCB, 0x97], .res_2_A),
    ([0xCB, 0x98], .res_3_B), ([0xCB, 0x99], .res_3_C), ([0xCB, 0x9A], .res_3_D), ([0xCB, 0x9B], .res_3_E),
    ([0xCB, 0x9C], .res_3_H), ([0xCB, 0x9D], .res_3_L), ([0xCB, 0x9E], .res_3_mHL), ([0xCB, 0x9F], .res_3_A)] = true := by decide

theorem test_decode_cb_A0 : decodesAll [
    ([0xCB, 0xA0], .res_4_B), ([0xCB, 0xA1], .res_4_C), ([0xCB, 0xA2], .res_4_D), ([0xCB, 0xA3], .res_4_E),
    ([0xCB, 0xA4], .res_4_H), ([0xCB, 0xA5], .res_4_L), ([0xCB, 0xA6], .res_4_mHL), ([0xCB, 0xA7], .res_4_A),
    ([0xCB, 0xA8], .res_5_B), ([0xCB, 0xA9], .res_5_C), ([0xCB, 0xAA], .res_5_D), ([0xCB, 0xAB], .res_5_E),
    ([0xCB, 0xAC], .res_5_H), ([0xCB, 0xAD], .res_5_L), ([0xCB, 0xAE], .res_5_mHL), ([0xCB, 0xAF], .res_5_A)] = true := by decide

theorem test_decode_cb_B0 : decodesAll [
    ([0xCB, 0xB0], .res_6_B), ([0xCB, 0xB1], .res_6_C), ([0xCB, 0xB2], .res_6_D), ([0xCB, 0xB3], .res_6_E),
    ([0xCB, 0xB4], .res_6_H), ([0xCB, 0xB5], .res_6_L), ([0xCB, 0xB6], .res_6_mHL), ([0xCB, 0xB7], .res_6_A),
    ([0xCB, 0xB8], .res_7_B), ([0xCB, 0xB9], .res_7_C), ([0xCB, 0xBA], .res_7_D), ([0xCB, 0xBB], .res_7_E),
    ([0xCB, 0xBC], .res_7_H), ([0xCB, 0xBD], .res_7_L), ([0xCB, 0xBE], .res_7_mHL), ([0xCB, 0xBF], .res_7_A)] = true := by decide

theorem test_decode_cb_C0 : decodesAll [
    ([0xCB, 0xC0], .set_0_B), ([0xCB, 0xC1], .set_0_C), ([0xCB, 0xC2], .set_0_D), ([0xCB, 0xC3], .set_0_E),
    ([0xCB, 0xC4], .set_0_H), ([0xCB, 0xC5], .set_0_L), ([0xCB, 0xC6], .set_0_mHL), ([0xCB, 0xC7], .set_0_A),
    ([0xCB, 0xC8], .set_1_B), ([0xCB, 0xC9], .set_1_C), ([0xCB, 0xCA], .set_1_D), ([0xCB, 0xCB], .set_1_E),
    ([0xCB, 0xCC], .set_1_H), ([0xCB, 0xCD], .set_1_L), ([0xCB, 0xCE], .set_1_mHL), ([0xCB, 0xCF], .set_1_A)] = true := by decide

theorem test_decode_cb_D0 : decodesAll [
    ([0xCB, 0xD0], .set_2_B), ([0xCB, 0xD1], .set_2_C), ([0xCB, 0xD2], .set_2_D), ([0xCB, 0xD3], .set_2_E),
    ([0xCB, 0xD4], .set_2_H), ([0xCB, 0xD5], .set_2_L), ([0xCB, 0xD6], .set_2_mHL), ([0xCB, 0xD7], .set_2_A),
    ([0xCB, 0xD8], .set_3_B), ([0xCB, 0xD9], .set_3_C), ([0xCB, 0xDA], .set_3_D), ([0xCB, 0xDB], .set_3_E),
    ([0xCB, 0xDC], .set_3_H), ([0xCB, 0xDD], .set_3_L), ([0xCB, 0xDE], .set_3_mHL), ([0xCB, 0xDF], .set_3_A)] = true := by decide

theorem test_decode_cb_E0 : decodesAll [
    ([0xCB, 0xE0], .set_4_B), ([0xCB, 0xE1], .set_4_C), ([0xCB, 0xE2], .set_4_D), ([0xCB, 0xE3], .set_4_E),
    ([0xCB, 0xE4], .set_4_H), ([0xCB, 0xE5], .set_4_L), ([0xCB, 0xE6], .set_4_mHL), ([0xCB, 0xE7], .set_4_A),
    ([0xCB, 0xE8], .set_5_B), ([0xCB, 0xE9], .set_5_C), ([0xCB, 0xEA], .set_5_D), ([0xCB, 0xEB], .set_5_E),
    ([0xCB, 0xEC], .set_5_H), ([0xCB, 0xED], .set_5_L), ([0xCB, 0xEE], .set_5_mHL), ([0xCB, 0xEF], .set_5_A)] = true := by decide

theorem test_decode_cb_F0 : decodesAll [
    ([0xCB, 0xF0], .set_6_B), ([0xCB, 0xF1], .set_6_C), ([0xCB, 0xF2], .set_6_D), ([0xCB, 0xF3], .set_6_E),
    ([0xCB, 0xF4], .set_6_H), ([0xCB, 0xF5], .set_6_L), ([0xCB, 0xF6], .set_6_mHL), ([0xCB, 0xF7], .set_6_A),
    ([0xCB, 0xF8], .set_7_B), ([0xCB, 0xF9], .set_7_C), ([0xCB, 0xFA], .set_7_D), ([0xCB, 0xFB], .set_7_E),
    ([0xCB, 0xFC], .set_7_H), ([0xCB, 0xFD], .set_7_L), ([0xCB, 0xFE], .set_7_mHL), ([0xCB, 0xFF], .set_7_A)] = true := by decide

theorem test_decode_ed_40 : decodesAll [
    ([0xED, 0x40], .in_B_mC), ([0xED, 0x41], .out_mC_B), ([0xED, 0x42], .sbc_HL_BC),
    ([0xED, 0x43, 0x34, 0x12], .ld_mnn_BC 0x1234), ([0xED, 0x44], .neg), ([0xED, 0x45], .retn), ([0xED, 0x46], .im_0),
    ([0xED, 0x47], .ld_I_A), ([0xED, 0x48], .in_C_mC), ([0xED, 0x49], .out_mC_C), ([0xED, 0x4A], .adc_HL_BC),
    ([0xED, 0x4B, 0x34, 0x12], .ld_BC_mnn 0x1234), ([0xED, 0x4D], .reti), ([0xED, 0x4F], .ld_R_A), ([0xED, 0x50], .in_D_mC),
    ([0xED, 0x51], .out_mC_D)] = true := by decide

theorem test_decode_ed_52 : decodesAll [
    ([0xED, 0x52], .sbc_HL_DE), ([0xED, 0x53, 0x34, 0x12], .ld_mnn_DE 0x1234), ([0xED, 0x56], .im_1),
    ([0xED, 0x57], .ld_A_I), ([0xED, 0x58], .in_E_mC), ([0xED, 0x59], .out_mC_E), ([0xED, 0x5A], .adc_HL_DE),
    ([0xED, 0x5B, 0x34, 0x12], .ld_DE_mnn 0x1234), ([0xED, 0x5E], .im_2), ([0xED, 0x5F], .ld_A_R), ([0xED, 0x60], .in_H_mC),
    ([0xED, 0x61], .out_mC_H), ([0xED, 0x62], .sbc_HL_HL), ([0xED, 0x63, 0x34, 0x12], .ld_mnn_HL_ed 0x1234),
    ([0xED, 0x67], .rrd), ([0xED, 0x68], .in_L_mC)] = true := by decide

theorem test_decode_ed_69 : decodesAll [
    ([0xED, 0x69], .out_mC_L), ([0xED, 0x6A], .adc_HL_HL), ([0xED, 0x6B, 0x34, 0x12], .ld_HL_mnn_ed 0x1234),
    ([0xED, 0x6F], .rld), ([0xED, 0x72], .sbc_HL_SP), ([0xED, 0x73, 0x34, 0x12], .ld_mnn_SP 0x1234),
    ([0xED, 0x78], .in_A_mC), ([0xED, 0x79], .out_mC_A), ([0xED, 0x7A], .adc_HL_SP),
    ([0xED, 0x7B, 0x34, 0x12], .ld_SP_mnn 0x1234), ([0xED, 0xA0], .ldi), ([0xED, 0xA1], .cpi), ([0xED, 0xA2], .ini),
    ([0xED, 0xA3], .outi), ([0xED, 0xA8], .ldd), ([0xED, 0xA9], .cpd)] = true := by decide

theorem test_decode_ed_AA : decodesAll [
    ([0xED, 0xAA], .ind), ([0xED, 0xAB], .outd), ([0xED, 0xB0], .ldir), ([0xED, 0xB1], .cpir), ([0xED, 0xB2], .inir),
    ([0xED, 0xB3], .otir), ([0xED, 0xB8], .lddr), ([0xED, 0xB9], .cpdr), ([0xED, 0xBA], .indr), ([0xED, 0xBB], .otdr)] = true := by decide

theorem test_decode_dd_09 : decodesAll [
    ([0xDD, 0x09], .add_IX_BC), ([0xDD, 0x19], .add_IX_DE), ([0xDD, 0x21, 0x34, 0x12], .ld_IX_nn 0x1234),
    ([0xDD, 0x22, 0x34, 0x12], .ld_mnn_IX 0x1234), ([0xDD, 0x23], .inc_IX), ([0xDD, 0x24], .inc_IXH),
    ([0xDD, 0x25], .dec_IXH), ([0xDD, 0x26, 0x5A], .ld_IXH_n 0x5A), ([0xDD, 0x29], .add_IX_IX),
    ([0xDD, 0x2A, 0x34, 0x12], .ld_IX_mnn 0x1234), ([0xDD, 0x2B], .dec_IX), ([0xDD, 0x2C], .inc_IXL),
    ([0xDD, 0x2D], .dec_IXL), ([0xDD, 0x2E, 0x5A], .ld_IXL_n 0x5A), ([0xDD, 0x34, 0xFE], .inc_mIXd (-2)),
    ([0xDD, 0x35, 0xFE], .dec_mIXd (-2))] = true := by decide

theorem test_decode_dd_36 : decodesAll [
    ([0xDD, 0x36, 0xFE, 0x5A], .ld_mIXd_n (-2) 0x5A), ([0xDD, 0x39], .add_IX_SP), ([0xDD, 0x44], .ld_B_IXH),
    ([0xDD, 0x45], .ld_B_IXL), ([0xDD, 0x46, 0xFE], .ld_B_mIXd (-2)), ([0xDD, 0x4C], .ld_C_IXH), ([0xDD, 0x4D], .ld_C_IXL),
    ([0xDD, 0x4E, 0xFE], .ld_C_mIXd (-2)), ([0xDD, 0x54], .ld_D_IXH), ([0xDD, 0x55], .ld_D_IXL),
    ([0xDD, 0x56, 0xFE], .ld_D_mIXd (-2)), ([0xDD, 0x5C], .ld_E_IXH), ([0xDD, 0x5D], .ld_E_IXL),
    ([0xDD, 0x5E, 0xFE], .ld_E_mIXd (-2)), ([0xDD, 0x60], .ld_IXH_B), ([0xDD, 0x61], .ld_IXH_C)] = true := by decide

theorem test_decode_dd_62 : decodesAll [
    ([0xDD, 0x62], .ld_IXH_D), ([0xDD, 0x63], .ld_IXH_E), ([0xDD, 0x64], .ld_IXH_IXH), ([0xDD, 0x65], .ld_IXH_IXL),
    ([0xDD, 0x66, 0xFE], .ld_H_mIXd (-2)), ([0xDD, 0x67], .ld_IXH_A), ([0xDD, 0x68], .ld_IXL_B), ([0xDD, 0x69], .ld_IXL_C),
    ([0xDD, 0x6A], .ld_IXL_D), ([0xDD, 0x6B], .ld_IXL_E), ([0xDD, 0x6C], .ld_IXL_IXH), ([0xDD, 0x6D], .ld_IXL_IXL),
    ([0xDD, 0x6E, 0xFE], .ld_L_mIXd (-2)), ([0xDD, 0x6F], .ld_IXL_A), ([0xDD, 0x70, 0xFE], .ld_mIXd_B (-2)),
    ([0xDD, 0x71, 0xFE], .ld_mIXd_C (-2))] = true := by decide

theorem test_decode_dd_72 : decodesAll [
    ([0xDD, 0x72, 0xFE], .ld_mIXd_D (-2)), ([0xDD, 0x73, 0xFE], .ld_mIXd_E (-2)), ([0xDD, 0x74, 0xFE], .ld_mIXd_H (-2)),
    ([0xDD, 0x75, 0xFE], .ld_mIXd_L (-2)), ([0xDD, 0x77, 0xFE], .ld_mIXd_A (-2)), ([0xDD, 0x7C], .ld_A_IXH),
    ([0xDD, 0x7D], .ld_A_IXL), ([0xDD, 0x7E, 0xFE], .ld_A_mIXd (-2)), ([0xDD, 0x84], .add_A_IXH), ([0xDD, 0x85], .add_A_IXL),
    ([0xDD, 0x86, 0xFE], .add_A_mIXd (-2)), ([0xDD, 0x8C], .adc_A_IXH), ([0xDD, 0x8D], .adc_A_IXL),
    ([0xDD, 0x8E, 0xFE], .adc_A_mIXd (-2)), ([0xDD, 0x94], .sub_IXH), ([0xDD, 0x95], .sub_IXL)] = true := by decide

theorem test_decode_dd_96 : decodesAll [
    ([0xDD, 0x96, 0xFE], .sub_mIXd (-2)), ([0xDD, 0x9C], .sbc_A_IXH), ([0xDD, 0x9D], .sbc_A_IXL),
    ([0xDD, 0x9E, 0xFE], .sbc_A_mIXd (-2)), ([0xDD, 0xA4], .and_IXH), ([0xDD, 0xA5], .and_IXL),
    ([0xDD, 0xA6, 0xFE], .and_mIXd (-2)), ([0xDD, 0xAC], .xor_IXH), ([0xDD, 0xAD], .xor_IXL),
    ([0xDD, 0xAE, 0xFE], .xor_mIXd (-2)), ([0xDD, 0xB4], .or_IXH), ([0xDD, 0xB5], .or_IXL),
    ([0xDD, 0xB6, 0xFE], .or_mIXd (-2)), ([0xDD, 0xBC], .cp_IXH), ([0xDD, 0xBD], .cp_IXL),
    ([0xDD, 0xBE, 0xFE], .cp_mIXd (-2))] = true := by decide

theorem test_decode_dd_E1 : decodesAll [
    ([0xDD, 0xE1], .pop_IX), ([0xDD, 0xE3], .ex_mSP_IX), ([0xDD, 0xE5], .push_IX), ([0xDD, 0xE9], .jp_mIX),
    ([0xDD, 0xF9], .ld_SP_IX)] = true := by decide

theorem test_decode_ddcb_06 : decodesAll [
    ([0xDD, 0xCB, 0xFE, 0x06], .rlc_mIXd (-2)), ([0xDD, 0xCB, 0xFE, 0x0E], .rrc_mIXd (-2)),
    ([0xDD, 0xCB, 0xFE, 0x16], .rl_mIXd (-2)), ([0xDD, 0xCB, 0xFE, 0x1E], .rr_mIXd (-2)),
    ([0xDD, 0xCB, 0xFE, 0x26], .sla_mIXd (-2)), ([0xDD, 0xCB, 0xFE, 0x2E], .sra_mIXd (-2)),
    ([0xDD, 0xCB, 0xFE, 0x36], .sll_mIXd (-2)), ([0xDD, 0xCB, 0xFE, 0x3E], .srl_mIXd (-2)),
    ([0xDD, 0xCB, 0xFE, 0x46], .bit_0_mIXd (-2)), ([0xDD, 0xCB, 0xFE, 0x4E], .bit_1_mIXd (-2)),
    ([0xDD, 0xCB, 0xFE, 0x56], .bit_2_mIXd (-2)), ([0xDD, 0xCB, 0xFE, 0x5E], .bit_3_mIXd (-2)),
    ([0xDD, 0xCB, 0xFE, 0x66], .bit_4_mIXd (-2)), ([0xDD, 0xCB, 0xFE, 0x6E], .bit_5_mIXd (-2)),
    ([0xDD, 0xCB, 0xFE, 0x76], .bit_6_mIXd (-2)), ([0xDD, 0xCB, 0xFE, 0x7E], .bit_7_mIXd (-2))] = true := by decide

theorem test_decode_ddcb_86 : decodesAll [
    ([0xDD, 0xCB, 0xFE, 0x86], .res_0_mIXd (-2)), ([0xDD, 0xCB, 0xFE, 0x8E], .res_1_mIXd (-2)),
    ([0xDD, 0xCB, 0xFE, 0x96], .res_2_mIXd (-2)), ([0xDD, 0xCB, 0xFE, 0x9E], .res_3_mIXd (-2)),
    ([0xDD, 0xCB, 0xFE, 0xA6], .res_4_mIXd (-2)), ([0xDD, 0xCB, 0xFE, 0xAE], .res_5_mIXd (-2)),
    ([0xDD, 0xCB, 0xFE, 0xB6], .res_6_mIXd (-2)), ([0xDD, 0xCB, 0xFE, 0xBE], .res_7_mIXd (-2)),
    ([0xDD, 0xCB, 0xFE, 0xC6], .set_0_mIXd (-2)), ([0xDD, 0xCB, 0xFE, 0xCE], .set_1_mIXd (-2)),
    ([0xDD, 0xCB, 0xFE, 0xD6], .set_2_mIXd (-2)), ([0xDD, 0xCB, 0xFE, 0xDE], .set_3_mIXd (-2)),
    ([0xDD, 0xCB, 0xFE, 0xE6], .set_4_mIXd (-2)), ([0xDD, 0xCB, 0xFE, 0xEE], .set_5_mIXd (-2)),
    ([0xDD, 0xCB, 0xFE, 0xF6], .set_6_mIXd (-2)), ([0xDD, 0xCB, 0xFE, 0xFE], .set_7_mIXd (-2))] = true := by decide

theorem test_decode_fd_09 : decodesAll [
    ([0xFD, 0x09], .add_IY_BC), ([0xFD, 0x19], .add_IY_DE), ([0xFD, 0x21, 0x34, 0x12], .ld_IY_nn 0x1234),
    ([0xFD, 0x22, 0x34, 0x12], .ld_mnn_IY 0x1234), ([0xFD, 0x23], .inc_IY), ([0xFD, 0x24], .inc_IYH),
    ([0xFD, 0x25], .dec_IYH), ([0xFD, 0x26, 0x5A], .ld_IYH_n 0x5A), ([0xFD, 0x29], .add_IY_IY),
    ([0xFD, 0x2A, 0x34, 0x12], .ld_IY_mnn 0x1234), ([0xFD, 0x2B], .dec_IY), ([0xFD, 0x2C], .inc_IYL),
    ([0xFD, 0x2D], .dec_IYL), ([0xFD, 0x2E, 0x5A], .ld_IYL_n 0x5A), ([0xFD, 0x34, 0xFE], .inc_mIYd (-2)),
    ([0xFD, 0x35, 0xFE], .dec_mIYd (-2))] = true := by decide

theorem test_decode_fd_36 : decodesAll [
    ([0xFD, 0x36, 0xFE, 0x5A], .ld_mIYd_n (-2) 0x5A), ([0xFD, 0x39], .add_IY_SP), ([0xFD, 0x44], .ld_B_IYH),
    ([0xFD, 0x45], .ld_B_IYL), ([0xFD, 0x46, 0xFE], .ld_B_mIYd (-2)), ([0xFD, 0x4C], .ld_C_IYH), ([0xFD, 0x4D], .ld_C_IYL),
    ([0xFD, 0x4E, 0xFE], .ld_C_mIYd (-2)), ([0xFD, 0x54], .ld_D_IYH), ([0xFD, 0x55], .ld_D_IYL),
    ([0xFD, 0x56, 0xFE], .ld_D_mIYd (-2)), ([0xFD, 0x5C], .ld_E_IYH), ([0xFD, 0x5D], .ld_E_IYL),
    ([0xFD, 0x5E, 0xFE], .ld_E_mIYd (-2)), ([0xFD, 0x60], .ld_IYH_B), ([0xFD, 0x61], .ld_IYH_C)] = true := by decide

theorem test_decode_fd_62 : decodesAll [
    ([0xFD, 0x62], .ld_IYH_D), ([0xFD, 0x63], .ld_IYH_E), ([0xFD, 0x64], .ld_IYH_IYH), ([0xFD, 0x65], .ld_IYH_IYL),
    ([0xFD, 0x66, 0xFE], .ld_H_mIYd (-2)), ([0xFD, 0x67], .ld_IYH_A), ([0xFD, 0x68], .ld_IYL_B), ([0xFD, 0x69], .ld_IYL_C),
    ([0xFD, 0x6A], .ld_IYL_D), ([0xFD, 0x6B], .ld_IYL_E), ([0xFD, 0x6C], .ld_IYL_IYH), ([0xFD, 0x6D], .ld_IYL_IYL),
    ([0xFD, 0x6E, 0xFE], .ld_L_mIYd (-2)), ([0xFD, 0x6F], .ld_IYL_A), ([0xFD, 0x70, 0xFE], .ld_mIYd_B (-2)),
    ([0xFD, 0x71, 0xFE], .ld_mIYd_C (-2))] = true := by decide

theorem test_decode_fd_72 : decodesAll [
    ([0xFD, 0x72, 0xFE], .ld_mIYd_D (-2)), ([0xFD, 0x73, 0xFE], .ld_mIYd_E (-2)), ([0xFD, 0x74, 0xFE], .ld_mIYd_H (-2)),
    ([0xFD, 0x75, 0xFE], .ld_mIYd_L (-2)), ([0xFD, 0x77, 0xFE], .ld_mIYd_A (-2)), ([0xFD, 0x7C], .ld_A_IYH),
    ([0xFD, 0x7D], .ld_A_IYL), ([0xFD, 0x7E, 0xFE], .ld_A_mIYd (-2)), ([0xFD, 0x84], .add_A_IYH), ([0xFD, 0x85], .add_A_IYL),
    ([0xFD, 0x86, 0xFE], .add_A_mIYd (-2)), ([0xFD, 0x8C], .adc_A_IYH), ([0xFD, 0x8D], .adc_A_IYL),
    ([0xFD, 0x8E, 0xFE], .adc_A_mIYd (-2)), ([0xFD, 0x94], .sub_IYH), ([0xFD, 0x95], .sub_IYL)] = true := by decide

theorem test_decode_fd_96 : decodesAll [
    ([0xFD, 0x96, 0xFE], .sub_mIYd (-2)), ([0xFD, 0x9C], .sbc_A_IYH), ([0xFD, 0x9D], .sbc_A_IYL),
    ([0xFD, 0x9E, 0xFE], .sbc_A_mIYd (-2)), ([0xFD, 0xA4], .and_IYH), ([0xFD, 0xA5], .and_IYL),
    ([0xFD, 0xA6, 0xFE], .and_mIYd (-2)), ([0xFD, 0xAC], .xor_IYH), ([0xFD, 0xAD], .xor_IYL),
    ([0xFD, 0xAE, 0xFE], .xor_mIYd (-2)), ([0xFD, 0xB4], .or_IYH), ([0xFD, 0xB5], .or_IYL),
    ([0xFD, 0xB6, 0xFE], .or_mIYd (-2)), ([0xFD, 0xBC], .cp_IYH), ([0xFD, 0xBD], .cp_IYL),
    ([0xFD, 0xBE, 0xFE], .cp_mIYd (-2))] = true := by decide

theorem test_decode_fd_E1 : decodesAll [
    ([0xFD, 0xE1], .pop_IY), ([0xFD, 0xE3], .ex_mSP_IY), ([0xFD, 0xE5], .push_IY), ([0xFD, 0xE9], .jp_mIY),
    ([0xFD, 0xF9], .ld_SP_IY)] = true := by decide

theorem test_decode_fdcb_06 : decodesAll [
    ([0xFD, 0xCB, 0xFE, 0x06], .rlc_mIYd (-2)), ([0xFD, 0xCB, 0xFE, 0x0E], .rrc_mIYd (-2)),
    ([0xFD, 0xCB, 0xFE, 0x16], .rl_mIYd (-2)), ([0xFD, 0xCB, 0xFE, 0x1E], .rr_mIYd (-2)),
    ([0xFD, 0xCB, 0xFE, 0x26], .sla_mIYd (-2)), ([0xFD, 0xCB, 0xFE, 0x2E], .sra_mIYd (-2)),
    ([0xFD, 0xCB, 0xFE, 0x36], .sll_mIYd (-2)), ([0xFD, 0xCB, 0xFE, 0x3E], .srl_mIYd (-2)),
    ([0xFD, 0xCB, 0xFE, 0x46], .bit_0_mIYd (-2)), ([0xFD, 0xCB, 0xFE, 0x4E], .bit_1_mIYd (-2)),
    ([0xFD, 0xCB, 0xFE, 0x56], .bit_2_mIYd (-2)), ([0xFD, 0xCB, 0xFE, 0x5E], .bit_3_mIYd (-2)),
    ([0xFD, 0xCB, 0xFE, 0x66], .bit_4_mIYd (-2)), ([0xFD, 0xCB, 0xFE, 0x6E], .bit_5_mIYd (-2)),
    ([0xFD, 0xCB, 0xFE, 0x76], .bit_6_mIYd (-2)), ([0xFD, 0xCB, 0xFE, 0x7E], .bit_7_mIYd (-2))] = true := by decide

theorem test_decode_fdcb_86 : decodesAll [
    ([0xFD, 0xCB, 0xFE, 0x86], .res_0_mIYd (-2)), ([0xFD, 0xCB, 0xFE, 0x8E], .res_1_mIYd (-2)),
    ([0xFD, 0xCB, 0xFE, 0x96], .res_2_mIYd (-2)), ([0xFD, 0xCB, 0xFE, 0x9E], .res_3_mIYd (-2)),
    ([0xFD, 0xCB, 0xFE, 0xA6], .res_4_mIYd (-2)), ([0xFD, 0xCB, 0xFE, 0xAE], .res_5_mIYd (-2)),
    ([0xFD, 0xCB, 0xFE, 0xB6], .res_6_mIYd (-2)), ([0xFD, 0xCB, 0xFE, 0xBE], .res_7_mIYd (-2)),
    ([0xFD, 0xCB, 0xFE, 0xC6], .set_0_mIYd (-2)), ([0xFD, 0xCB, 0xFE, 0xCE], .set_1_mIYd (-2)),
    ([0xFD, 0xCB, 0xFE, 0xD6], .set_2_mIYd (-2)), ([0xFD, 0xCB, 0xFE, 0xDE], .set_3_mIYd (-2)),
    ([0xFD, 0xCB, 0xFE, 0xE6], .set_4_mIYd (-2)), ([0xFD, 0xCB, 0xFE, 0xEE], .set_5_mIYd (-2)),
    ([0xFD, 0xCB, 0xFE, 0xF6], .set_6_mIYd (-2)), ([0xFD, 0xCB, 0xFE, 0xFE], .set_7_mIYd (-2))] = true := by decide

/-- The table's numbering: bit 0 is the least significant bit of the first byte. -/
theorem test_table_word_two_bytes : decodeTableWord 16 0x44ED = some .neg := by decide
theorem test_table_word_four_bytes : decodeTableWord 32 0x2E02CBDD = some (.sra_mIXd 2) := by decide
theorem test_table_word_zero_operands : decodeTableWord 8 0xC3 = some (.jp_nn 0x0000) := by decide
theorem test_table_word_undefined : decodeTableWord 16 0x00ED = none := by decide

/-- The word placed is the one the next step runs, as the first instruction after reset (log entry 7). -/
theorem test_withFetchWord_runs : ends (State.reset.withFetchWord 32 0x5AFE36DD) (fun t => t.PC == 4 && t.peek 0xFFFE == 0x5A) = true := by
  decide

/-- On an external device the word is put among its answers, and the operands the table gives no bits are zeros (log entry 7). -/
theorem test_withFetchWord_external :
    ends (({ State.reset with memDevice := .external } : State).withFetchWord 8 0xC3) (fun t => t.PC == 0 && t.memAnswers == []) = true := by
  decide

/-! ## Other memory devices (20_memory.md R63, log entry 1) -/

/-- A device that ignores writes to 0x0000..0x3FFF: LD (HL),n at the last protected address and at the first that is not. -/
theorem test_protected_ram :
    ends (code 0x8000 [0x36, 0x42] { State.reset with memDevice := .protectedRam [(0x0000, 0x3FFF)], H := 0x3F, L := 0xFF })
      (fun t => t.stored 0x3FFF == 0x00 && t.accesses.getLast? == some (.memWrite 0x3FFF 0x42)) = true ∧
    ends (code 0x8000 [0x36, 0x42] { State.reset with memDevice := .protectedRam [(0x0000, 0x3FFF)], H := 0x40, L := 0x00 })
      (fun t => t.stored 0x4000 == 0x42) = true := by decide

/-- A device that answers as scripted: LD A,(nn) reads its three bytes, then the operand, in that order (R72); exactly its own
reads are drawn. -/
theorem test_external_device :
    ends { State.reset with memDevice := .external, PC := 0xFFFF, memAnswers := [0x3A, 0x34, 0x12, 0x99, 0x76] }
      (fun t => t.A == 0x99 && t.PC == 0x0002 && t.memAnswers == [0x76] && t.draws == 4 &&
        t.accesses == [.memRead 0xFFFF 0x3A, .memRead 0x0000 0x34, .memRead 0x0001 0x12, .memRead 0x1234 0x99]) = true := by decide

/-! ## Single steps, from the source's and the derived vectors (spec/95_test_vectors.md) -/

/-- ADD A,B (signed overflow) (R151). -/
theorem test_V101 : ends (code 0x1000 [0x80] { State.reset with A := 0x7F, B := 0x01 })
    (fun t => t.PC == 0x1001 && t.A == 0x80 && t.F.pack == 0x94) = true := by decide

/-- ADD A,B (carry, zero) (R151). -/
theorem test_V102 : ends (code 0x1000 [0x80] { State.reset with A := 0xFF, B := 0x01 })
    (fun t => t.PC == 0x1001 && t.A == 0x00 && t.F.pack == 0x51) = true := by decide

/-- ADD A,n (F5/F3 from result) (R151). -/
theorem test_V103 : ends (code 0x1000 [0xC6, 0x28] { State.reset with A := 0x00 })
    (fun t => t.PC == 0x1002 && t.A == 0x28 && t.F.pack == 0x28) = true := by decide

/-- ADD A,(IX-1) (R151). -/
theorem test_V105 : ends (put [(0x2000, 0x7F)] (code 0x1000 [0xDD, 0x86, 0xFF] { State.reset with A := 0x01, IX := 0x2001 }))
    (fun t => t.PC == 0x1003 && t.A == 0x80 && t.F.pack == 0x94) = true := by decide

/-- ADC A,n with C=1 (half carry) (R152). -/
theorem test_V107 : ends (code 0x1000 [0xCE, 0x00] { State.reset with A := 0x0F, F := Flags.unpack 0x01 })
    (fun t => t.PC == 0x1002 && t.A == 0x10 && t.F.pack == 0x10) = true := by decide

/-- SUB B (overflow) (R153). -/
theorem test_V109 : ends (code 0x1000 [0x90] { State.reset with A := 0x80, B := 0x01 })
    (fun t => t.PC == 0x1001 && t.A == 0x7F && t.F.pack == 0x3E) = true := by decide

/-- SBC A,C with C=1 (R154). -/
theorem test_V112 : ends (code 0x1000 [0x99] { State.reset with A := 0x10, C := 0x0F, F := Flags.unpack 0x01 })
    (fun t => t.PC == 0x1001 && t.A == 0x00 && t.F.pack == 0x52) = true := by decide

/-- AND n (R155). -/
theorem test_V114 : ends (code 0x1000 [0xE6, 0x0F] { State.reset with A := 0x5A })
    (fun t => t.PC == 0x1002 && t.A == 0x0A && t.F.pack == 0x1C) = true := by decide

/-- XOR A (R156). -/
theorem test_V116 : ends (code 0x1000 [0xAF] { State.reset with A := 0x5A, F := Flags.unpack 0xFF })
    (fun t => t.PC == 0x1001 && t.A == 0x00 && t.F.pack == 0x44) = true := by decide

/-- OR B (R157). -/
theorem test_V117 : ends (code 0x1000 [0xB0] { State.reset with A := 0x80, B := 0x28 })
    (fun t => t.PC == 0x1001 && t.A == 0xA8 && t.F.pack == 0xA8) = true := by decide

/-- CP n (F5/F3 from operand) (R158). -/
theorem test_V118 : ends (code 0x1000 [0xFE, 0x28] { State.reset with A := 0x10 })
    (fun t => t.PC == 0x1002 && t.F.pack == 0xBB) = true := by decide

/-- CP B (equal) (R158). -/
theorem test_V119 : ends (code 0x1000 [0xB8] { State.reset with A := 0x42, B := 0x42 })
    (fun t => t.PC == 0x1001 && t.F.pack == 0x42) = true := by decide

/-- INC A (overflow, C kept) (R159). -/
theorem test_V121 : ends (code 0x1000 [0x3C] { State.reset with A := 0x7F, F := Flags.unpack 0x01 })
    (fun t => t.PC == 0x1001 && t.A == 0x80 && t.F.pack == 0x95) = true := by decide

/-- INC IXL (R159). -/
theorem test_V124 : ends (code 0x1000 [0xDD, 0x2C] { State.reset with IX := 0x12FF })
    (fun t => t.PC == 0x1002 && t.IX == 0x1200 && t.F.pack == 0x50) = true := by decide

/-- DEC A (overflow) (R160). -/
theorem test_V125 : ends (code 0x1000 [0x3D] { State.reset with A := 0x80 })
    (fun t => t.PC == 0x1001 && t.A == 0x7F && t.F.pack == 0x3E) = true := by decide

/-- DAA after 0x99+0x01 (R161). -/
theorem test_V128 : ends (code 0x1000 [0x27] { State.reset with A := 0x9A, F := Flags.unpack 0x00 })
    (fun t => t.PC == 0x1001 && t.A == 0x00 && t.F.pack == 0x55) = true := by decide

/-- CPL (R162). -/
theorem test_V131 : ends (code 0x1000 [0x2F] { State.reset with A := 0x5A })
    (fun t => t.PC == 0x1001 && t.A == 0xA5 && t.F.pack == 0x32) = true := by decide

/-- NEG (A=0x01) (R163). -/
theorem test_V132 : ends (code 0x1000 [0xED, 0x44] { State.reset with A := 0x01 })
    (fun t => t.PC == 0x1002 && t.A == 0xFF && t.F.pack == 0xBB) = true := by decide

/-- CCF (C=1) (R164). -/
theorem test_V135 : ends (code 0x1000 [0x3F] { State.reset with F := Flags.unpack 0x01 })
    (fun t => t.PC == 0x1001 && !t.F.S && !t.F.Z && t.F.H && !t.F.PV && !t.F.N && !t.F.C) = true := by decide

/-- SCF (R165). -/
theorem test_V136 : ends (code 0x1000 [0x37] { State.reset with F := Flags.unpack 0xD6 })
    (fun t => t.PC == 0x1001 && t.F.S && t.F.Z && !t.F.H && t.F.PV && !t.F.N && t.F.C) = true := by decide

/-- ADD HL,BC (half carry from bit 11) (R181). -/
theorem test_V201 : ends (code 0x1000 [0x09] { State.reset with H := 0x0F, L := 0xFF, B := 0x00, C := 0x01 })
    (fun t => t.PC == 0x1001 && t.H == 0x10 && t.L == 0x00 && t.F.pack == 0x10) = true := by decide

/-- ADC HL,BC with C=1 (overflow) (R182). -/
theorem test_V205 : ends (code 0x1000 [0xED, 0x4A] { State.reset with H := 0x7F, L := 0xFF, B := 0x00, C := 0x00, F := Flags.unpack 0x01 })
    (fun t => t.PC == 0x1002 && t.H == 0x80 && t.L == 0x00 && t.F.pack == 0x94) = true := by decide

/-- SBC HL,DE (overflow) (R183). -/
theorem test_V207 : ends (code 0x1000 [0xED, 0x52] { State.reset with H := 0x80, L := 0x00, D := 0x00, E := 0x01 })
    (fun t => t.PC == 0x1002 && t.H == 0x7F && t.L == 0xFF && t.F.pack == 0x3E) = true := by decide

/-- INC BC (wrap, no flags) (R184). -/
theorem test_V210 : ends (code 0x1000 [0x03] { State.reset with B := 0xFF, C := 0xFF, F := Flags.unpack 0x00 })
    (fun t => t.PC == 0x1001 && t.B == 0x00 && t.C == 0x00 && t.F.pack == 0x00) = true := by decide

/-- DEC SP (wrap) (R185). -/
theorem test_V211 : ends (code 0x1000 [0x3B] { State.reset with SP := 0x0000 })
    (fun t => t.PC == 0x1001 && t.SP == 0xFFFF && t.F.pack == 0x00) = true := by decide

/-- RLCA (R201). -/
theorem test_V301 : ends (code 0x1000 [0x07] { State.reset with A := 0x81, F := Flags.unpack 0xC4 })
    (fun t => t.PC == 0x1001 && t.A == 0x03 && t.F.pack == 0xC5) = true := by decide

/-- RRCA (R202). -/
theorem test_V302 : ends (code 0x1000 [0x0F] { State.reset with A := 0x01 })
    (fun t => t.PC == 0x1001 && t.A == 0x80 && t.F.pack == 0x01) = true := by decide

/-- RLA (R203). -/
theorem test_V303 : ends (code 0x1000 [0x17] { State.reset with A := 0x80 })
    (fun t => t.PC == 0x1001 && t.A == 0x00 && t.F.pack == 0x01) = true := by decide

/-- RRA with C=1 (R204). -/
theorem test_V304 : ends (code 0x1000 [0x1F] { State.reset with A := 0x01, F := Flags.unpack 0x01 })
    (fun t => t.PC == 0x1001 && t.A == 0x80 && t.F.pack == 0x01) = true := by decide

/-- RLC B (R206). -/
theorem test_V305 : ends (code 0x1000 [0xCB, 0x00] { State.reset with B := 0x80 })
    (fun t => t.PC == 0x1002 && t.B == 0x01 && t.F.pack == 0x01) = true := by decide

/-- RRC C (R207). -/
theorem test_V307 : ends (code 0x1000 [0xCB, 0x09] { State.reset with C := 0x01 })
    (fun t => t.PC == 0x1002 && t.C == 0x80 && t.F.pack == 0x81) = true := by decide

/-- RL D (R208). -/
theorem test_V308 : ends (code 0x1000 [0xCB, 0x12] { State.reset with D := 0x80 })
    (fun t => t.PC == 0x1002 && t.D == 0x00 && t.F.pack == 0x45) = true := by decide

/-- RR E with C=1 (R209). -/
theorem test_V309 : ends (code 0x1000 [0xCB, 0x1B] { State.reset with E := 0x01, F := Flags.unpack 0x01 })
    (fun t => t.PC == 0x1002 && t.E == 0x80 && t.F.pack == 0x81) = true := by decide

/-- SLA H (R210). -/
theorem test_V310 : ends (code 0x1000 [0xCB, 0x24] { State.reset with H := 0x81 })
    (fun t => t.PC == 0x1002 && t.H == 0x02 && t.F.pack == 0x01) = true := by decide

/-- SRA L (R211). -/
theorem test_V311 : ends (code 0x1000 [0xCB, 0x2D] { State.reset with L := 0x81 })
    (fun t => t.PC == 0x1002 && t.L == 0xC0 && t.F.pack == 0x85) = true := by decide

/-- SRA (IX+2) (R211). -/
theorem test_V312 : ends (put [(0x2002, 0x80)] (code 0x1000 [0xDD, 0xCB, 0x02, 0x2E] { State.reset with IX := 0x2000 }))
    (fun t => t.PC == 0x1004 && t.F.pack == 0x84 && t.peek 0x2002 == 0xC0) = true := by decide

/-- SLL A (R212). -/
theorem test_V313 : ends (code 0x1000 [0xCB, 0x37] { State.reset with A := 0x81 })
    (fun t => t.PC == 0x1002 && t.A == 0x03 && t.F.pack == 0x05) = true := by decide

/-- SRL A (R213). -/
theorem test_V314 : ends (code 0x1000 [0xCB, 0x3F] { State.reset with A := 0x01 })
    (fun t => t.PC == 0x1002 && t.A == 0x00 && t.F.pack == 0x45) = true := by decide

/-- RLC (IY-128) (R206). -/
theorem test_V315 : ends (put [(0x2000, 0x01)] (code 0x1000 [0xFD, 0xCB, 0x80, 0x06] { State.reset with IY := 0x2080 }))
    (fun t => t.PC == 0x1004 && t.F.pack == 0x00 && t.peek 0x2000 == 0x02) = true := by decide

/-- RLD (R215). -/
theorem test_V316 : ends (put [(0x2000, 0x34)] (code 0x1000 [0xED, 0x6F] { State.reset with A := 0x12, H := 0x20, L := 0x00 }))
    (fun t => t.PC == 0x1002 && t.A == 0x13 && t.F.pack == 0x00 && t.peek 0x2000 == 0x42) = true := by decide

/-- RRD (R216). -/
theorem test_V317 : ends (put [(0x2000, 0x34)] (code 0x1000 [0xED, 0x67] { State.reset with A := 0x12, H := 0x20, L := 0x00 }))
    (fun t => t.PC == 0x1002 && t.A == 0x14 && t.F.pack == 0x04 && t.peek 0x2000 == 0x23) = true := by decide

/-- BIT 7,A (bit set) (R231). -/
theorem test_V401 : ends (code 0x1000 [0xCB, 0x7F] { State.reset with A := 0x80, F := Flags.unpack 0x01 })
    (fun t => t.PC == 0x1002 && t.F.pack == 0x91) = true := by decide

/-- BIT 0,B (bit clear, F5/F3 from value) (R231). -/
theorem test_V402 : ends (code 0x1000 [0xCB, 0x40] { State.reset with B := 0x28 })
    (fun t => t.PC == 0x1002 && t.F.pack == 0x7C) = true := by decide

/-- BIT 5,(IX-1) (F5/F3 from EA high byte) (R231). -/
theorem test_V403 : ends (put [(0x2800, 0x20)] (code 0x1000 [0xDD, 0xCB, 0xFF, 0x6E] { State.reset with IX := 0x2801 }))
    (fun t => t.PC == 0x1004 && t.F.pack == 0x38) = true := by decide

/-- BIT 3,(HL) (F5/F3 any) (R231). -/
theorem test_V404 : ends (put [(0x2000, 0x00)] (code 0x1000 [0xCB, 0x5E] { State.reset with H := 0x20, L := 0x00 }))
    (fun t => t.PC == 0x1002 && !t.F.S && t.F.Z && t.F.H && t.F.PV && !t.F.N && !t.F.C) = true := by decide

/-- SET 7,(HL) (R232). -/
theorem test_V405 : ends (put [(0x2000, 0x01)] (code 0x1000 [0xCB, 0xFE] { State.reset with H := 0x20, L := 0x00 }))
    (fun t => t.PC == 0x1002 && t.F.pack == 0x00 && t.peek 0x2000 == 0x81) = true := by decide

/-- RES 0,A (R233). -/
theorem test_V407 : ends (code 0x1000 [0xCB, 0x87] { State.reset with A := 0xFF })
    (fun t => t.PC == 0x1002 && t.A == 0xFE && t.F.pack == 0x00) = true := by decide

/-- LDI (BC 1 -> 0, PV=0) (R251). -/
theorem test_V501 : ends (put [(0x8000, 0xAA)] (code 0x1000 [0xED, 0xA0] { State.reset with A := 0x00, H := 0x80, L := 0x00, D := 0x90, E := 0x00, B := 0x00, C := 0x01 }))
    (fun t => t.PC == 0x1002 && t.C == 0x00 && t.E == 0x01 && t.L == 0x01 && t.F.pack == 0x28 && t.peek 0x9000 == 0xAA) = true := by decide

/-- LDD (R252). -/
theorem test_V503 : ends (put [(0x8002, 0xCC)] (code 0x1000 [0xED, 0xA8] { State.reset with H := 0x80, L := 0x02, D := 0x90, E := 0x02, B := 0x00, C := 0x02 }))
    (fun t => t.PC == 0x1002 && t.C == 0x01 && t.E == 0x01 && t.L == 0x01 && t.F.pack == 0x0C && t.peek 0x9002 == 0xCC) = true := by decide

/-- LDIR one element (repeats) (R253). -/
theorem test_V504 : ends (put [(0x8000, 0xAA), (0x8001, 0xBB), (0x8002, 0xCC)] (code 0x1000 [0xED, 0xB0] { State.reset with H := 0x80, L := 0x00, D := 0x90, E := 0x00, B := 0x00, C := 0x03 }))
    (fun t => t.PC == 0x1000 && t.C == 0x02 && t.E == 0x01 && t.L == 0x01 && t.F.pack == 0x2C && t.peek 0x9000 == 0xAA) = true := by decide

/-- CPI (no match) (R256). -/
theorem test_V507 : ends (put [(0x8000, 0x01)] (code 0x1000 [0xED, 0xA1] { State.reset with A := 0x10, H := 0x80, L := 0x00, B := 0x00, C := 0x02 }))
    (fun t => t.PC == 0x1002 && t.C == 0x01 && t.L == 0x01 && t.F.pack == 0x3E) = true := by decide

/-- CPD (R257). -/
theorem test_V509 : ends (put [(0x8000, 0x01)] (code 0x1000 [0xED, 0xA9] { State.reset with A := 0x00, H := 0x80, L := 0x00, B := 0x00, C := 0x01 }))
    (fun t => t.PC == 0x1002 && t.C == 0x00 && t.H == 0x7F && t.L == 0xFF && t.F.pack == 0xBA) = true := by decide

/-- INI (R261). -/
theorem test_V513 : ends (code 0x1000 [0xED, 0xA2] { State.reset with B := 0x02, C := 0xFE, H := 0x90, L := 0x00, portAnswers := [0x80] })
    (fun t => t.PC == 0x1002 && t.B == 0x01 && t.L == 0x01 && t.F.pack == 0x17 && t.peek 0x9000 == 0x80 &&
      decide (.ioRead 0x02FE 0x80 ∈ t.accesses)) = true := by decide

/-- IND (R262). -/
theorem test_V514 : ends (code 0x1000 [0xED, 0xAA] { State.reset with B := 0x01, C := 0x10, H := 0x90, L := 0x00, portAnswers := [0x0F] })
    (fun t => t.PC == 0x1002 && t.B == 0x00 && t.H == 0x8F && t.L == 0xFF && t.F.pack == 0x44 &&
      t.peek 0x9000 == 0x0F && decide (.ioRead 0x0110 0x0F ∈ t.accesses)) = true := by decide

/-- OUTI (port after decrement) (R265). -/
theorem test_V516 : ends (put [(0x8000, 0x55)] (code 0x1000 [0xED, 0xA3] { State.reset with B := 0x02, C := 0x98, H := 0x80, L := 0x00 }))
    (fun t => t.PC == 0x1002 && t.B == 0x01 && t.L == 0x01 && t.F.pack == 0x00 &&
      decide (.ioWrite 0x0198 0x55 ∈ t.accesses)) = true := by decide

/-- OUTD (R266). -/
theorem test_V517 : ends (put [(0x8000, 0xFF)] (code 0x1000 [0xED, 0xAB] { State.reset with B := 0x01, C := 0xFE, H := 0x80, L := 0x00 }))
    (fun t => t.PC == 0x1002 && t.B == 0x00 && t.H == 0x7F && t.L == 0xFF && t.F.pack == 0x57 &&
      decide (.ioWrite 0x00FE 0xFF ∈ t.accesses)) = true := by decide

/-- LD B,A (R281). -/
theorem test_V601 : ends (code 0x1000 [0x47] { State.reset with A := 0x5A })
    (fun t => t.PC == 0x1001 && t.B == 0x5A && t.F.pack == 0x00) = true := by decide

/-- LD E,n (R282). -/
theorem test_V602 : ends (code 0x1000 [0x1E, 0x99] State.reset)
    (fun t => t.PC == 0x1002 && t.E == 0x99 && t.F.pack == 0x00) = true := by decide

/-- LD A,(HL) (R283). -/
theorem test_V603 : ends (put [(0x2000, 0x3C)] (code 0x1000 [0x7E] { State.reset with H := 0x20, L := 0x00 }))
    (fun t => t.PC == 0x1001 && t.A == 0x3C && t.F.pack == 0x00) = true := by decide

/-- LD H,(IX-2) (H, not IXH) (R284). -/
theorem test_V604 : ends (put [(0x2000, 0xAB)] (code 0x1000 [0xDD, 0x66, 0xFE] { State.reset with IX := 0x2002 }))
    (fun t => t.PC == 0x1003 && t.H == 0xAB && t.F.pack == 0x00) = true := by decide

/-- LD (HL),B (R285). -/
theorem test_V605 : ends (code 0x1000 [0x70] { State.reset with B := 0x12, H := 0x20, L := 0x00 })
    (fun t => t.PC == 0x1001 && t.F.pack == 0x00 && t.peek 0x2000 == 0x12) = true := by decide

/-- LD (IY+3),L (L, not IYL) (R286). -/
theorem test_V606 : ends (code 0x1000 [0xFD, 0x75, 0x03] { State.reset with L := 0x34, IY := 0x3000 })
    (fun t => t.PC == 0x1003 && t.F.pack == 0x00 && t.peek 0x3003 == 0x34) = true := by decide

/-- LD (HL),n (R287). -/
theorem test_V607 : ends (code 0x1000 [0x36, 0x42] { State.reset with H := 0x20, L := 0x00 })
    (fun t => t.PC == 0x1002 && t.F.pack == 0x00 && t.peek 0x2000 == 0x42) = true := by decide

/-- LD (IX-2),n (address wraps) (R288). -/
theorem test_V608 : ends (code 0x1000 [0xDD, 0x36, 0xFE, 0x5A] { State.reset with IX := 0x0001 })
    (fun t => t.PC == 0x1004 && t.F.pack == 0x00 && t.peek 0xFFFF == 0x5A) = true := by decide

/-- LD A,(DE) (R289). -/
theorem test_V609 : ends (put [(0x2000, 0x77)] (code 0x1000 [0x1A] { State.reset with D := 0x20, E := 0x00 }))
    (fun t => t.PC == 0x1001 && t.A == 0x77 && t.F.pack == 0x00) = true := by decide

/-- LD A,(nn) (R290). -/
theorem test_V610 : ends (put [(0x2000, 0x88)] (code 0x1000 [0x3A, 0x00, 0x20] State.reset))
    (fun t => t.PC == 0x1003 && t.A == 0x88 && t.F.pack == 0x00) = true := by decide

/-- LD (BC),A (R291). -/
theorem test_V611 : ends (code 0x1000 [0x02] { State.reset with A := 0x66, B := 0x20, C := 0x00 })
    (fun t => t.PC == 0x1001 && t.F.pack == 0x00 && t.peek 0x2000 == 0x66) = true := by decide

/-- LD (nn),A (R292). -/
theorem test_V612 : ends (code 0x1000 [0x32, 0x00, 0x20] { State.reset with A := 0x99 })
    (fun t => t.PC == 0x1003 && t.F.pack == 0x00 && t.peek 0x2000 == 0x99) = true := by decide

/-- LD IXH,B (R293). -/
theorem test_V613 : ends (code 0x1000 [0xDD, 0x60] { State.reset with B := 0xAB, IX := 0x1234 })
    (fun t => t.PC == 0x1002 && t.IX == 0xAB34 && t.F.pack == 0x00) = true := by decide

/-- LD IXL,n (R294). -/
theorem test_V615 : ends (code 0x1000 [0xDD, 0x2E, 0x77] { State.reset with IX := 0x1234 })
    (fun t => t.PC == 0x1003 && t.IX == 0x1277 && t.F.pack == 0x00) = true := by decide

/-- LD A,I (PV = IFF2) (R296). -/
theorem test_V616 : ends (code 0x1000 [0xED, 0x57] { State.reset with I := 0x80, IFF2 := true, F := Flags.unpack 0x01 })
    (fun t => t.PC == 0x1002 && t.A == 0x80 && t.F.pack == 0x85) = true := by decide

/-- LD A,R (R frozen, PV = IFF2 = 0) (R297). -/
theorem test_V617 : ends (code 0x1000 [0xED, 0x5F] { State.reset with R := 0x00, F := Flags.unpack 0x00 })
    (fun t => t.PC == 0x1002 && t.F.pack == 0x40) = true := by decide

/-- LD I,A (R298). -/
theorem test_V618 : ends (code 0x1000 [0xED, 0x47] { State.reset with A := 0x39 })
    (fun t => t.PC == 0x1002 && t.I == 0x39 && t.F.pack == 0x00) = true := by decide

/-- LD R,A (R299). -/
theorem test_V619 : ends (code 0x1000 [0xED, 0x4F] { State.reset with A := 0xC3 })
    (fun t => t.PC == 0x1002 && t.R == 0xC3 && t.F.pack == 0x00) = true := by decide

/-- LD SP,nn (R300). -/
theorem test_V620 : ends (code 0x1000 [0x31, 0x00, 0x80] State.reset)
    (fun t => t.PC == 0x1003 && t.SP == 0x8000 && t.F.pack == 0x00) = true := by decide

/-- LD HL,(nn) (R301). -/
theorem test_V621 : ends (put [(0x2000, 0x34), (0x2001, 0x12)] (code 0x1000 [0x2A, 0x00, 0x20] State.reset))
    (fun t => t.PC == 0x1003 && t.H == 0x12 && t.L == 0x34 && t.F.pack == 0x00) = true := by decide

/-- LD DE,(nn) (ED form) (R302). -/
theorem test_V622 : ends (put [(0x2000, 0xCD), (0x2001, 0xAB)] (code 0x1000 [0xED, 0x5B, 0x00, 0x20] State.reset))
    (fun t => t.PC == 0x1004 && t.D == 0xAB && t.E == 0xCD && t.F.pack == 0x00) = true := by decide

/-- LD IY,(nn) (R303). -/
theorem test_V623 : ends (put [(0x2000, 0x01), (0x2001, 0x90)] (code 0x1000 [0xFD, 0x2A, 0x00, 0x20] State.reset))
    (fun t => t.PC == 0x1004 && t.IY == 0x9001 && t.F.pack == 0x00) = true := by decide

/-- LD (nn),HL at 0xFFFF (wraps) (R304). -/
theorem test_V624 : ends (code 0x1000 [0x22, 0xFF, 0xFF] { State.reset with H := 0x12, L := 0x34 })
    (fun t => t.PC == 0x1003 && t.F.pack == 0x00 && t.peek 0x0000 == 0x12 && t.peek 0xFFFF == 0x34) = true := by decide

/-- LD (nn),SP (R305). -/
theorem test_V625 : ends (code 0x1000 [0xED, 0x73, 0x00, 0x20] { State.reset with SP := 0xBEEF })
    (fun t => t.PC == 0x1004 && t.F.pack == 0x00 && t.peek 0x2000 == 0xEF && t.peek 0x2001 == 0xBE) = true := by decide

/-- LD (nn),IX (R306). -/
theorem test_V626 : ends (code 0x1000 [0xDD, 0x22, 0x00, 0x20] { State.reset with IX := 0x5678 })
    (fun t => t.PC == 0x1004 && t.F.pack == 0x00 && t.peek 0x2000 == 0x78 && t.peek 0x2001 == 0x56) = true := by decide

/-- LD SP,IX (R307). -/
theorem test_V627 : ends (code 0x1000 [0xDD, 0xF9] { State.reset with IX := 0x4000 })
    (fun t => t.PC == 0x1002 && t.SP == 0x4000 && t.F.pack == 0x00) = true := by decide

/-- EX DE,HL (R310). -/
theorem test_V628 : ends (code 0x1000 [0xEB] { State.reset with D := 0x11, E := 0x11, H := 0x22, L := 0x22 })
    (fun t => t.PC == 0x1001 && t.D == 0x22 && t.E == 0x22 && t.H == 0x11 && t.L == 0x11 && t.F.pack == 0x00) = true := by decide

/-- EX AF,AF' (R312). -/
theorem test_V629 : ends (code 0x1000 [0x08] { State.reset with A := 0x01, F := Flags.unpack 0x02, A' := 0x03, F' := 0x04 })
    (fun t => t.PC == 0x1001 && t.A == 0x03 && t.A' == 0x01 && t.F' == 0x02 && t.F.pack == 0x04) = true := by decide

/-- EXX (R313). -/
theorem test_V630 : ends (code 0x1000 [0xD9] { State.reset with B := 0x01, C := 0x02, D := 0x03, E := 0x04, H := 0x05, L := 0x06, B' := 0x0A, C' := 0x0B })
    (fun t => t.PC == 0x1001 && t.B == 0x0A && t.C == 0x0B && t.D == 0x00 && t.E == 0x00 && t.H == 0x00 &&
      t.L == 0x00 && t.B' == 0x01 && t.C' == 0x02 && t.D' == 0x03 && t.E' == 0x04 && t.H' == 0x05 &&
      t.L' == 0x06 && t.F.pack == 0x00) = true := by decide

/-- EX (SP),HL (R314). -/
theorem test_V631 : ends (put [(0x8000, 0x78), (0x8001, 0x56)] (code 0x1000 [0xE3] { State.reset with H := 0x12, L := 0x34, SP := 0x8000 }))
    (fun t => t.PC == 0x1001 && t.H == 0x56 && t.L == 0x78 && t.F.pack == 0x00 && t.peek 0x8000 == 0x34 &&
      t.peek 0x8001 == 0x12) = true := by decide

/-- PUSH AF at SP=0x0001 (wraps) (R322). -/
theorem test_V633 : ends (code 0x1000 [0xF5] { State.reset with A := 0x3C, F := Flags.unpack 0xD7, SP := 0x0001 })
    (fun t => t.PC == 0x1001 && t.SP == 0xFFFF && t.F.pack == 0xD7 && t.peek 0x0000 == 0x3C && t.peek 0xFFFF == 0xD7) = true := by decide

/-- POP AF at SP=0xFFFF (wraps) (R323). -/
theorem test_V634 : ends (put [(0x0000, 0x3C), (0xFFFF, 0xD7)] (code 0x1000 [0xF1] { State.reset with SP := 0xFFFF }))
    (fun t => t.PC == 0x1001 && t.A == 0x3C && t.SP == 0x0001 && t.F.pack == 0xD7) = true := by decide

/-- JP nn (R331). -/
theorem test_V701 : ends (code 0x1000 [0xC3, 0x00, 0x40] State.reset)
    (fun t => t.PC == 0x4000 && t.F.pack == 0x00) = true := by decide

/-- JP PO,nn (PV=0, taken) (R332). -/
theorem test_V702 : ends (code 0x1000 [0xE2, 0x00, 0x40] { State.reset with F := Flags.unpack 0x00 })
    (fun t => t.PC == 0x4000 && t.F.pack == 0x00) = true := by decide

/-- JR +127 (R333). -/
theorem test_V705 : ends (code 0x1000 [0x18, 0x7F] State.reset)
    (fun t => t.PC == 0x1081 && t.F.pack == 0x00) = true := by decide

/-- JR NZ,+5 (Z=1, not taken) (R334). -/
theorem test_V708 : ends (code 0x1000 [0x20, 0x05] { State.reset with F := Flags.unpack 0x40 })
    (fun t => t.PC == 0x1002 && t.F.pack == 0x40) = true := by decide

/-- JR C,+5 (taken) (R334). -/
theorem test_V709 : ends (code 0x1000 [0x38, 0x05] { State.reset with F := Flags.unpack 0x01 })
    (fun t => t.PC == 0x1007 && t.F.pack == 0x01) = true := by decide

/-- JP (IX) (R335). -/
theorem test_V710 : ends (code 0x1000 [0xDD, 0xE9] { State.reset with IX := 0x4000 })
    (fun t => t.PC == 0x4000 && t.F.pack == 0x00) = true := by decide

/-- DJNZ -2 with B=1 (falls through) (R336). -/
theorem test_V711 : ends (code 0x1000 [0x10, 0xFE] { State.reset with B := 0x01 })
    (fun t => t.PC == 0x1002 && t.B == 0x00 && t.F.pack == 0x00) = true := by decide

/-- CALL nn (R337). -/
theorem test_V713 : ends (code 0x1000 [0xCD, 0x00, 0x20] { State.reset with SP := 0xFFFE })
    (fun t => t.PC == 0x2000 && t.SP == 0xFFFC && t.F.pack == 0x00 && t.peek 0xFFFC == 0x03 && t.peek 0xFFFD == 0x10) = true := by decide

/-- CALL NC,nn (C=1, not taken) (R338). -/
theorem test_V714 : ends (code 0x1000 [0xD4, 0x00, 0x40] { State.reset with F := Flags.unpack 0x01, SP := 0x8000 })
    (fun t => t.PC == 0x1003 && t.F.pack == 0x01) = true := by decide

/-- CALL Z,nn (taken) (R338). -/
theorem test_V715 : ends (code 0x1000 [0xCC, 0x00, 0x40] { State.reset with F := Flags.unpack 0x40, SP := 0x8000 })
    (fun t => t.PC == 0x4000 && t.SP == 0x7FFE && t.F.pack == 0x40 && t.peek 0x7FFE == 0x03 && t.peek 0x7FFF == 0x10) = true := by decide

/-- RET (R339). -/
theorem test_V716 : ends (put [(0x7FFE, 0x05), (0x7FFF, 0x10)] (code 0x1000 [0xC9] { State.reset with SP := 0x7FFE }))
    (fun t => t.PC == 0x1005 && t.SP == 0x8000 && t.F.pack == 0x00) = true := by decide

/-- RET NZ (Z=1, not taken) (R340). -/
theorem test_V717 : ends (code 0x1000 [0xC0] { State.reset with F := Flags.unpack 0x40, SP := 0x7FFE })
    (fun t => t.PC == 0x1001 && t.F.pack == 0x40) = true := by decide

/-- RETI (IFF1 <- 1, IFF2 kept) (R341). -/
theorem test_V719 : ends (put [(0x8000, 0x34), (0x8001, 0x12)] (code 0x1000 [0xED, 0x4D] { State.reset with SP := 0x8000 }))
    (fun t => t.PC == 0x1234 && t.SP == 0x8002 && t.IFF1 && t.F.pack == 0x00) = true := by decide

/-- RETN (IFF1 <- IFF2) (R342). -/
theorem test_V720 : ends (put [(0x8000, 0x34), (0x8001, 0x12)] (code 0x1000 [0xED, 0x45] { State.reset with SP := 0x8000, IFF2 := true }))
    (fun t => t.PC == 0x1234 && t.SP == 0x8002 && t.IFF1 && t.F.pack == 0x00) = true := by decide

/-- RST 38h (R343). -/
theorem test_V721 : ends (code 0x1000 [0xFF] { State.reset with SP := 0x8000 })
    (fun t => t.PC == 0x0038 && t.SP == 0x7FFE && t.F.pack == 0x00 && t.peek 0x7FFE == 0x01 && t.peek 0x7FFF == 0x10) = true := by decide

/-- IN B,(C) (R371). -/
theorem test_V801 : ends (code 0x1000 [0xED, 0x40] { State.reset with B := 0x12, C := 0x34, portAnswers := [0x85] })
    (fun t => t.PC == 0x1002 && t.B == 0x85 && t.F.pack == 0x80 && decide (.ioRead 0x1234 0x85 ∈ t.accesses)) = true := by decide

/-- IN A,(n) (port (A<<8)/n) (R372). -/
theorem test_V803 : ends (code 0x1000 [0xDB, 0xFE] { State.reset with A := 0x7F, F := Flags.unpack 0xFF, portAnswers := [0xBF] })
    (fun t => t.PC == 0x1002 && t.A == 0xBF && t.F.pack == 0xFF && decide (.ioRead 0x7FFE 0xBF ∈ t.accesses)) = true := by decide

/-- OUT (C),A (R373). -/
theorem test_V804 : ends (code 0x1000 [0xED, 0x79] { State.reset with A := 0x10, B := 0x7F, C := 0xFD })
    (fun t => t.PC == 0x1002 && t.F.pack == 0x00 && decide (.ioWrite 0x7FFD 0x10 ∈ t.accesses)) = true := by decide

/-- OUT (n),A (R374). -/
theorem test_V805 : ends (code 0x1000 [0xD3, 0xFE] { State.reset with A := 0x07 })
    (fun t => t.PC == 0x1002 && t.F.pack == 0x00 && decide (.ioWrite 0x07FE 0x07 ∈ t.accesses)) = true := by decide

/-- NOP (R390). -/
theorem test_V901 : ends (code 0x1000 [0x00] State.reset)
    (fun t => t.PC == 0x1001 && t.F.pack == 0x00) = true := by decide

/-- HALT (R391). -/
theorem test_V902 : ends (code 0x1000 [0x76] State.reset)
    (fun t => t.PC == 0x1000 && t.Halted && t.F.pack == 0x00) = true := by decide

/-- DI (R392). -/
theorem test_V904 : ends (code 0x1000 [0xF3] { State.reset with IFF1 := true, IFF2 := true })
    (fun t => t.PC == 0x1001 && !t.IFF1 && !t.IFF2 && t.F.pack == 0x00) = true := by decide

/-- EI (R393). -/
theorem test_V905 : ends (code 0x1000 [0xFB] State.reset)
    (fun t => t.PC == 0x1001 && t.IFF1 && t.IFF2 && t.F.pack == 0x00) = true := by decide

/-- IM 2 (R396). -/
theorem test_V906 : ends (code 0x1000 [0xED, 0x5E] State.reset)
    (fun t => t.PC == 0x1002 && decide (t.IM = .im2) && t.F.pack == 0x00) = true := by decide

/-- IM 1 acceptance (R425). -/
theorem test_V1001 : ends (code 0x4000 [] { State.reset with IFF1 := true, IFF2 := true, IM := .im1, SP := 0x8000, schedule := [.maskable 0x00] })
    (fun t => t.PC == 0x0038 && t.SP == 0x7FFE && !t.IFF1 && t.F.pack == 0x00 && t.peek 0x7FFF == 0x40) = true := by decide

/-- IM 2 acceptance, bus=FF (R424). -/
theorem test_V1002 : ends (put [(0x39FF, 0x00), (0x3A00, 0x80)] (code 0x1234 [] { State.reset with IFF1 := true, IFF2 := true, IM := .im2, I := 0x39, SP := 0x8000, schedule := [.maskable 0xFF] }))
    (fun t => t.PC == 0x8000 && t.SP == 0x7FFE && !t.IFF1 && t.F.pack == 0x00 && t.peek 0x7FFE == 0x34 &&
      t.peek 0x7FFF == 0x12) = true := by decide

/-- request with IFF1=0 (discarded) (R421). -/
theorem test_V1003 : ends (code 0x1000 [] { State.reset with IFF1 := false, IFF2 := true, IM := .im1, SP := 0x8000, schedule := [.maskable 0x00] })
    (fun t => t.PC == 0x1000 && t.F.pack == 0x00) = true := by decide

/-- NMI while running (R430). -/
theorem test_V1004 : ends (code 0x1234 [] { State.reset with IFF1 := true, IFF2 := true, SP := 0x8000, schedule := [.nmi] })
    (fun t => t.PC == 0x0066 && t.SP == 0x7FFE && t.F.pack == 0x00 && t.peek 0x7FFE == 0x34 && t.peek 0x7FFF == 0x12) = true := by decide

/-- IM 0 acceptance at SP=0 (R424). -/
theorem test_V1007 : ends (code 0x1234 [] { State.reset with IFF1 := true, IM := .im0, SP := 0x0000, schedule := [.maskable 0x00] })
    (fun t => t.PC == 0x0038 && t.SP == 0xFFFE && !t.IFF1 && t.F.pack == 0x00 && t.peek 0xFFFE == 0x34 &&
      t.peek 0xFFFF == 0x12) = true := by decide

/-! ## Every statement with hypotheses: a state and operands that meet them all -/

/-- DecodeInvertsEncode: both ends of the displacement range are well-formed. -/
theorem test_witness_DecodeInvertsEncode :
    (Instr.ld_mIXd_n (-128) 0x5A).wellFormed = true ∧ (Instr.jr_e 127).wellFormed = true ∧ Instr.nop.wellFormed = true := by decide

theorem test_witness_EncodeInvertsDecode : decodesTo [0xDD, 0x36, 0xFE, 0x5A] (.ld_mIXd_n (-2) 0x5A) = true := by decide

/-- The premise of EncodingFields, on two of its four alternatives. -/
theorem test_witness_EncodingFields :
    ((Form.rot .SRL = Form.rot .SRL ∧ 0x38 = 8 * rotCode .SRL) ∨ (Form.rot .SRL = Form.bit 7 ∧ 0x38 = 0x40 + 8 * (7 : Fin 8).val)) ∧
    ((Form.set 7 = Form.res 7 ∧ 0xF8 = 0x80 + 8 * (7 : Fin 8).val) ∨ (Form.set 7 = Form.set 7 ∧ 0xF8 = 0xC0 + 8 * (7 : Fin 8).val)) :=
  ⟨.inl ⟨rfl, rfl⟩, .inr ⟨rfl, rfl⟩⟩

/-- A running core at the top of the address space, its instruction wrapping to 0. -/
def wrapping : State := code 0xFFFF [0xDD, 0xE5] State.reset

theorem test_witness_StepRunsDecodedInstruction :
    Running wrapping ∧ decode (fetchWindow wrapping) = .ok (.push_IX, [0x00, 0x00]) := ⟨⟨rfl, rfl⟩, rfl⟩

/-- The same on an external device, whose next answer is all the step draws. -/
theorem test_witness_StepRunsDecodedInstruction_external :
    Running { State.reset with memDevice := .external, memAnswers := [0x76, 0xED, 0x00, 0x00] } ∧
      decode (fetchWindow { State.reset with memDevice := .external, memAnswers := [0x76, 0xED, 0x00, 0x00] }) =
        .ok (.halt, [0xED, 0x00, 0x00]) := ⟨⟨rfl, rfl⟩, rfl⟩

theorem test_witness_HaltedStepIsIdle :
    ({ State.reset with Halted := true } : State).schedule = [] ∧ ({ State.reset with Halted := true } : State).Halted = true := by
  decide

/-- UndefinedBytesFault: a running core at each kind of byte sequence its clauses name. -/
theorem test_witness_UndefinedBytesFault_base :
    Running (code 0x1000 [0xCB, 0x00] State.reset) ∧ (code 0x1000 [0xCB, 0x00] State.reset).peek 0x1000 = 0xCB := by
  exact ⟨⟨rfl, rfl⟩, by decide⟩

theorem test_witness_UndefinedBytesFault_ed :
    edAdmitted 0x00 = false ∧ edAdmitted 0x77 = false ∧ edAdmitted 0xBC = false ∧ edAdmitted 0x40 = true ∧ edAdmitted 0xBB = true ∧
      (code 0x1000 [0xED, 0x00] State.reset).peek 0x1000 = 0xED ∧ (code 0x1000 [0xED, 0x00] State.reset).peek 0x1001 = 0x00 := by
  decide

theorem test_witness_UndefinedBytesFault_index :
    indexAdmitted 0x76 = false ∧ indexAdmitted 0xDD = false ∧ indexAdmitted 0x09 = true ∧ indexAdmitted 0xF9 = true ∧
      (code 0x1000 [0xFD, 0x76] State.reset).peek 0x1000 = leadByte .IY ∧
      (code 0x1000 [0xDD, 0x09] State.reset).peek 0x1000 = leadByte .IX := by
  decide

theorem test_witness_UndefinedBytesFault_indexed_cb :
    opZ 0x00 ≠ 6 ∧ opZ 0xFF ≠ 6 ∧ opZ 0x06 = 6 ∧ opZ 0xFE = 6 ∧
      (code 0x1000 [0xDD, 0xCB, 0x05, 0x00] State.reset).peek 0x1001 = 0xCB ∧
      (code 0x1000 [0xDD, 0xCB, 0x05, 0x00] State.reset).peek 0x1003 = 0x00 := by
  decide

/-- V1101 to V1109: the bytes DecodeError carries (R99, R101, R102, R103). -/
theorem test_V1101 : decodeErrorOf [0xED, 0x00] = some [0xED, 0x00] := by decide
theorem test_V1102 : decodeErrorOf [0xDD, 0x00] = some [0xDD, 0x00] := by decide
theorem test_V1103 : decodeErrorOf [0xDD, 0xDD, 0x21, 0x00, 0x00] = some [0xDD, 0xDD] := by decide
theorem test_V1104 : decodeErrorOf [0xDD, 0xCB, 0x05, 0x00] = some [0xDD, 0xCB, 0x05, 0x00] := by decide
theorem test_V1105 : decodeErrorOf [0xED, 0x77] = some [0xED, 0x77] := by decide
theorem test_V1106 : decodeErrorOf [0xED, 0x4C] = some [0xED, 0x4C] := by decide
theorem test_V1107 : decodeErrorOf [0xED, 0x70] = some [0xED, 0x70] := by decide
theorem test_V1108 : decodeErrorOf [0xDD, 0x76] = some [0xDD, 0x76] := by decide
theorem test_V1109 : decodeErrorOf [0xFD, 0xEB] = some [0xFD, 0xEB] := by decide

/-- R410: the core is as before, the reads of the bytes were made, and the core goes on with what the host does next, here to skip
the two bytes. -/
theorem test_decode_error_leaves :
    ends (code 0x1000 [0xED, 0x00] { State.reset with A := 0x42, R := 0x07, schedule := [.step, .write .PC 0x1002] }) (fun t =>
      t.A == 0x42 && t.R == 0x07 && t.PC == 0x1000 && t.accesses == [.memRead 0x1000 0xED, .memRead 0x1001 0x00] &&
      t.schedule == [.write .PC 0x1002] && ends t (fun u => u.PC == 0x1002 && u.report == none)) = true := by decide

/-- R410, R63: on an external device the answers to the reads made are used up, those of DD CB d op here, and no more. -/
theorem test_decode_error_external :
    ends { State.reset with memDevice := .external, memAnswers := [0xDD, 0xCB, 0x05, 0x00, 0x76] } (fun t =>
      t.report == some (.decodeError 0x0000 [0xDD, 0xCB, 0x05, 0x00]) && t.PC == 0x0000 && t.memAnswers == [0x76] &&
      t.draws == 4 && ends t (fun u => u.Halted && u.report == none)) = true := by decide

/-- UndefinedBytesFault, its clause on stepping again: a running core on `PLAIN_RAM` whose step reports an error. -/
theorem test_witness_UndefinedBytesFault_again :
    Running (code 0x1000 [0xED, 0x00] State.reset) ∧ (code 0x1000 [0xED, 0x00] State.reset).memDevice = .plainRam ∧
      reportOf (code 0x1000 [0xED, 0x00] State.reset) = some (.decodeError 0x1000 [0xED, 0x00]) :=
  ⟨⟨rfl, rfl⟩, rfl, by decide⟩

/-- OnlyListedFaults: the two errors reported, with an empty schedule, a scheduled step and a host write. -/
theorem test_witness_OnlyListedFaults_decode :
    reportOf (code 0x1000 [0xED, 0x00] State.reset) = some (.decodeError 0x1000 [0xED, 0x00]) ∧
    reportOf (code 0x1000 [0xED, 0x00] { State.reset with schedule := [.step, .nmi] }) =
      some (.decodeError 0x1000 [0xED, 0x00]) := by decide

theorem test_witness_OnlyListedFaults_mode :
    reportOf { State.reset with schedule := [.write .IM 3] } = some (.invalidInterruptMode 3) := by decide

theorem test_witness_StepKeepsInvariant :
    Inv (code 0x1000 [0x34] State.reset) ∧ ∃ t, step (code 0x1000 [0x34] State.reset) = .next t := ⟨⟨by decide, rfl⟩, ⟨_, rfl⟩⟩

theorem test_witness_StepMemoryIsAccountedFor :
    (∃ t, step (code 0x1000 [0xF5] State.reset) = .next t) ∧ (code 0x1000 [0xF5] State.reset).schedule = [] ∧
    (∃ t, step { State.reset with IFF1 := true, schedule := [.maskable 0xFF] } = .next t) := ⟨⟨_, rfl⟩, rfl, ⟨_, rfl⟩⟩

/-- Its clause on a host write of core state: a next state, and the write comes first in the schedule. -/
theorem test_witness_StepMemoryIsAccountedFor_write :
    (∃ t, step { State.reset with schedule := [.write .SP 0x18000, .step] } = .next t) ∧
    ({ State.reset with schedule := [.write .SP 0x18000, .step] } : State).schedule = .write .SP 0x18000 :: [.step] := ⟨⟨_, rfl⟩, rfl⟩

/-- The frames: an instruction answers a next state on a state; here one that stores (an address outside its stored bytes is
0x2001) and one that stores nothing. -/
theorem test_witness_MemoryFrame :
    (∃ t, exec (Form.ldHLReg .A).instr { State.reset with H := 0x20 } = .next t) ∧
    (0x2001 : Word) ∉ storeAddrs (.ldHLReg .A) { State.reset with H := 0x20 } ∧
    storeAddrs (.alu .CP .memHL) State.reset = [] := ⟨⟨_, rfl⟩, by decide, rfl⟩

theorem test_witness_RegisterFrame :
    (∃ t, exec (Form.push .BC).instr State.reset = .next t) ∧ Reg8.A ∉ dest8 (.push .BC) ∧ Reg16.IX ∉ dest16 (.push .BC) ∧
      Reg16.IY ∉ dest16 (.push .BC) ∧ Reg16.SP ∉ dest16 (.alu .ADD .memHL) := ⟨⟨_, rfl⟩, by decide, by decide, by decide, by decide⟩

theorem test_witness_FlagFrame : ∃ t, exec (Form.incM .memHL).instr State.reset = .next t := ⟨_, rfl⟩

theorem test_witness_SpecialRegisterFrame : ∃ t, exec .nop State.reset = .next t := ⟨_, rfl⟩

theorem test_witness_ProgramCounterFrame :
    (∃ t, exec (Form.alu .ADD .memHL).instr State.reset = .next t) ∧ writesPC (.alu .ADD .memHL) = false := ⟨⟨_, rfl⟩, rfl⟩

theorem test_witness_PortFrame : ∃ t, exec (Form.inA 0xFE).instr State.reset = .next t := ⟨_, rfl⟩

theorem test_witness_ResetEventKeepsMemory :
    ({ State.reset with schedule := [.reset, .step] } : State).schedule = .reset :: [.step] := by decide

/-- MemoryReadsWhatWasWritten: each memory device, an address beside a word at the top of the address space, the two sides of a
protected region's end, and an external device's first answer. -/
theorem test_witness_MemoryReadsWhatWasWritten :
    State.reset.memDevice = .plainRam ∧ (0x0000 : Word) ≠ 0xFFFE ∧ (0x0000 : Word) ≠ 0xFFFE + 1 := by decide

theorem test_witness_MemoryReadsWhatWasWritten_protected :
    ({ State.reset with memDevice := .protectedRam [(0x0000, 0x3FFF)] } : State).memDevice = .protectedRam [(0x0000, 0x3FFF)] ∧
      ¬ (∀ r ∈ [((0x0000 : Word), (0x3FFF : Word))], (0x3FFF : Word) < r.1 ∨ r.2 < 0x3FFF) ∧
      (∀ r ∈ [((0x0000 : Word), (0x3FFF : Word))], (0x4000 : Word) < r.1 ∨ r.2 < 0x4000) :=
  ⟨rfl, by simp, by simp⟩

theorem test_witness_MemoryReadsWhatWasWritten_external :
    ({ State.reset with memDevice := .external, memAnswers := [0x85] } : State).memDevice = .external ∧
      ({ State.reset with memDevice := .external, memAnswers := [0x85] } : State).memAnswers[0]? = some 0x85 := by decide

theorem test_witness_PairsComposeTheirHalves : Reg16.AF ≠ Reg16.BC := by decide

theorem test_witness_AddAndAdcResult : AluOp.ADD = .ADD ∨ AluOp.ADD = .ADC := by decide

theorem test_witness_SubSbcAndCpResult : AluOp.CP = .SUB ∨ AluOp.CP = .SBC ∨ AluOp.CP = .CP := by decide

theorem test_witness_LogicResult : AluOp.XOR = .AND ∨ AluOp.XOR = .XOR ∨ AluOp.XOR = .OR := by decide

theorem test_witness_DecimalAdjustGivesDecimalDigits :
    99 < 100 ∧ ({ State.reset with A := 0x99 } : State).A = bcd 99 ∧ bcd 45 = 0x45 := by decide

/-- BlockCompareElement: both premises, "repeats" and "does not". -/
theorem test_witness_BlockCompareElement :
    ({ State.reset with C := 2, A := 1 } : State).get16 .BC - 1 ≠ 0 ∧
      ({ State.reset with C := 2, A := 1 } : State).A ≠ State.reset.peek 0 ∧
      ({ State.reset with C := 1 } : State).get16 .BC - 1 = 0 := by decide

/-- LdirMovesTheBlock: three bytes from 0x8000 to 0x9000, as in vector V7. -/
def moving : State :=
  code 0x1000 [0xED, 0xB0] { State.reset with B := 0x00, C := 0x03, D := 0x90, E := 0x00, H := 0x80, L := 0x00 }

theorem test_witness_LdirMovesTheBlock :
    (moving.schedule = [] ∧ moving.Halted = false) ∧ moving.memDevice = .plainRam ∧
      moving.stored moving.PC = 0xED ∧ moving.stored (moving.PC + 1) = 0xB0 ∧ moving.get16 .BC = BitVec.ofNat 16 3 ∧
      ∀ a ∈ addrsFrom (moving.get16 .DE) 3, a ∉ addrsFrom (moving.get16 .HL) 3 ∧ a ≠ moving.PC ∧ a ≠ moving.PC + 1 := by
  have hd : addrsFrom (moving.get16 .DE) 3 = [0x9000, 0x9001, 0x9002] := by decide
  have hs : addrsFrom (moving.get16 .HL) 3 = [0x8000, 0x8001, 0x8002] := by decide
  have hp : moving.PC = 0x1000 := by decide
  rw [hd, hs, hp]
  exact ⟨⟨rfl, rfl⟩, by decide, by decide, by decide, by decide, by simp⟩

theorem test_witness_ExchangeResult :
    (Instr.exx = .ex_DE_HL ∨ Instr.exx = .ex_AF_AF ∨ Instr.exx = .exx) ∧ State.reset.memDevice = .plainRam := by decide

theorem test_witness_PushAndPopResult : ({ State.reset with SP := 0x0001 } : State).memDevice = .plainRam := by decide

theorem test_witness_CallAndReturnResult :
    State.reset.memDevice = .plainRam ∧ (Instr.call_nn 0x2000 = .call_nn 0x2000 ∨ Instr.call_nn 0x2000 = (Form.rst 7).instr) := by
  decide

theorem test_witness_PortInstructionResult : ({ State.reset with portAnswers := [0x85] } : State).portAnswers = 0x85 :: [] := by
  decide

theorem test_witness_MaskableInterruptResult :
    ({ State.reset with schedule := [.maskable 0xFF] } : State).schedule = .maskable 0xFF :: [] ∧ State.reset.IFF1 = false ∧
      State.reset.IM = .im0 ∧ ({ State.reset with IFF1 := true, IM := .im2, schedule := [.maskable 0xFF] } : State).IM = .im2 := by
  decide

theorem test_witness_NonMaskableEntry :
    ({ State.reset with Halted := true, schedule := [.nmi] } : State).schedule = .nmi :: [] := by decide

theorem test_witness_InterruptReturnResumes :
    State.reset.memDevice = .plainRam ∧
    ({ State.reset with IFF1 := true, Halted := true, schedule := [.maskable 0xFF] } : State).schedule = .maskable 0xFF :: [] ∧
      ({ State.reset with IFF1 := true, Halted := true, schedule := [.maskable 0xFF] } : State).IFF1 = true ∧
      ({ State.reset with schedule := [.nmi, .step] } : State).schedule = .nmi :: [.step] := by decide

/-- HostWriteOfModeIsChecked: the values where its clauses meet. -/
theorem test_witness_HostWriteOfModeIsChecked :
    ({ State.reset with schedule := [.write .IM 3] } : State).schedule = .write .IM 3 :: [] ∧ 2 < 3 ∧
      ({ State.reset with schedule := [.write .IM 2] } : State).schedule = .write .IM 2 :: [] := by decide

/-- HostWriteMasksToWidth: IM at the last number it takes, a boolean, and numbers wider than their field. -/
theorem test_witness_HostWriteMasksToWidth :
    ({ State.reset with schedule := [.write .IM 2] } : State).schedule = .write .IM 2 :: [] ∧ (HostField.IM = .IM → 2 ≤ 2) ∧
      ({ State.reset with schedule := [.write .Halted 3] } : State).schedule = .write .Halted 3 :: [] ∧
      (HostField.Halted = .IM → 3 ≤ 2) ∧ (HostField.IX = .IM → 0x12345 ≤ 2) := by decide

/-- A host write of a byte and of a word, wider than the field (R452). -/
theorem test_host_write_masks :
    ends { State.reset with A := 0x11, schedule := [.write .A 0x1FE] } (fun t => t.A == 0xFE && t.B == 0x00) = true ∧
      ends { State.reset with schedule := [.write .IX 0x12345] } (fun t => t.IX == 0x2345 && t.IY == 0x0000) = true := by decide

end Sys2Proof.Tests.Slice0
end

section
/-! The flag codec (10_state.md R26) and the state after reset (R50). -/

namespace Sys2Proof.Machine

/-! ### Where each flag sits in F (R26)

`Flags.unpack` reads flag by flag the bits the rule lists, so each place is one field of the round trip `Flags.unpack_pack`. -/

theorem Flags.getLsbD_pack_S (f : Flags) : f.pack.getLsbD 7 = f.S := congrArg Flags.S f.unpack_pack
theorem Flags.getLsbD_pack_Z (f : Flags) : f.pack.getLsbD 6 = f.Z := congrArg Flags.Z f.unpack_pack
theorem Flags.getLsbD_pack_F5 (f : Flags) : f.pack.getLsbD 5 = f.F5 := congrArg Flags.F5 f.unpack_pack
theorem Flags.getLsbD_pack_H (f : Flags) : f.pack.getLsbD 4 = f.H := congrArg Flags.H f.unpack_pack
theorem Flags.getLsbD_pack_F3 (f : Flags) : f.pack.getLsbD 3 = f.F3 := congrArg Flags.F3 f.unpack_pack
theorem Flags.getLsbD_pack_PV (f : Flags) : f.pack.getLsbD 2 = f.PV := congrArg Flags.PV f.unpack_pack
theorem Flags.getLsbD_pack_N (f : Flags) : f.pack.getLsbD 1 = f.N := congrArg Flags.N f.unpack_pack
theorem Flags.getLsbD_pack_C (f : Flags) : f.pack.getLsbD 0 = f.C := congrArg Flags.C f.unpack_pack

/-! ### The state after reset (R50) -/

@[simp] theorem State.get8_reset (r : Reg8) : State.reset.get8 r = 0 := by cases r <;> rfl

@[simp] theorem Flags.pack_zero : Flags.zero.pack = 0 := rfl

@[simp] theorem resetEvent_mem (s : State) : (resetEvent s).mem = s.mem := rfl

end Sys2Proof.Machine

namespace Sys2Proof.Proofs

open Sys2Proof.Machine

/-- Settles O21: the two round trips are the codec's laws, and the eight places follow from the second. -/
theorem flagCodecRoundTrips : Obligations.FlagCodecRoundTrips := by
  unfold Obligations.FlagCodecRoundTrips
  refine ⟨Flags.pack_unpack, Flags.unpack_pack, fun f => ?_⟩
  exact ⟨f.getLsbD_pack_S, f.getLsbD_pack_Z, f.getLsbD_pack_F5, f.getLsbD_pack_H,
    f.getLsbD_pack_F3, f.getLsbD_pack_PV, f.getLsbD_pack_N, f.getLsbD_pack_C⟩

/-- Settles O19: the registers by `State.get8_reset`, F by `Flags.pack_zero`, the other fields as `State.reset` lists them, and
the memory a reset event keeps by `resetEvent_mem`. -/
theorem resetClearsEveryField : Obligations.ResetClearsEveryField := by
  unfold Obligations.ResetClearsEveryField
  exact ⟨State.get8_reset, Flags.pack_zero, rfl, rfl, rfl, rfl, rfl, rfl, rfl, rfl, rfl, rfl, rfl, rfl, rfl, rfl, rfl, rfl,
    rfl, rfl, resetEvent_mem⟩

end Sys2Proof.Proofs
end

section
/-! The decoder takes an instruction's own bytes off the sequence, and a step runs what it decoded (30_encoding.md R93, R94). -/

namespace Sys2Proof

open Machine

/-- The instruction a cell of an opcode map selects with the operands given, and its operand bytes in fetch order (R91). -/
def Entry.select (e : Entry) (n : Byte) (d : Int) (nn : Word) : Option (Instr × List Byte) :=
  match e with
  | .op i => some (i, [])
  | .opN f => some (f n, [n])
  | .opS f => some (f d, [displacementByte d])
  | .opSN f => some (f d n, [displacementByte d, n])
  | .opNN f => some (f nn, [loByte nn, hiByte nn])
  | .lead => none
  | .bad => none

/-- What an accepted cell takes off the sequence are the operand bytes of the instruction it selects. -/
theorem select_of_decodeOperands {e : Entry} {why : Reject} {bs rest : List Byte} {i : Instr}
    (h : decodeOperands e why bs = .ok (i, rest)) :
    ∃ n d nn os, e.select n d nn = some (i, os) ∧ bs = os ++ rest := by
  unfold decodeOperands at h
  split at h
  next i => cases h; exact ⟨0, 0, 0, [], rfl, rfl⟩
  next f =>
    split at h
    next n rest => cases h; exact ⟨n, 0, 0, [n], rfl, rfl⟩
    next => cases h
  next f =>
    split at h
    next d rest => cases h; exact ⟨0, signedByte d, 0, [d], by simp [Entry.select, displacementByte_signedByte], rfl⟩
    next => cases h
  next f =>
    split at h
    next d n rest => cases h; exact ⟨n, signedByte d, 0, [d, n], by simp [Entry.select, displacementByte_signedByte], rfl⟩
    next => cases h
  next f =>
    split at h
    next lo hi rest => cases h; exact ⟨0, 0, joinBytes hi lo, [lo, hi], by simp [Entry.select], rfl⟩
    next => cases h
  next => cases h
  next => cases h

/-- The encoder agrees with an opcode map: a cell's instruction has its opcode byte and operand bytes in the layer's layout. -/
def GridEncodes (grid : List (List Entry)) (layout : Byte → List Byte → Option (List Byte)) : Prop :=
  ∀ (n : Byte) (d : Int) (nn : Word) (op : Byte),
    ((gridAt grid op).select n d nn).map (encode ·.1) = ((gridAt grid op).select n d nn).bind (layout op ·.2)

/-- The layout of every layer but the indexed CB layers: lead bytes, opcode byte, operand bytes (R91). -/
def layoutAfter (lead : List Byte) (op : Byte) (os : List Byte) : Option (List Byte) := some (lead ++ op :: os)

/-- The layout of an indexed CB layer: one operand byte, which stands before the opcode byte (R101). -/
def layoutIndexedCb (lead op : Byte) (os : List Byte) : Option (List Byte) :=
  match os with
  | [d] => some [lead, 0xCB, d, op]
  | _ => none

/-- The values of a function of a byte in rows of 16, as the spec prints an opcode map (R110). -/
def byteRows {α : Type} (f : Byte → α) : List (List α) :=
  (List.range 16).map fun row => (List.range 16).map fun column => f (BitVec.ofNat 8 (16 * row + column))

theorem eq_of_byteRows_eq {α : Type} {f g : Byte → α} (h : byteRows f = byteRows g) (b : Byte) : f b = g b := by
  have hb := b.isLt
  have hrow := List.map_inj_left.mp h (b.toNat / 16) (List.mem_range.mpr (by omega))
  have hcell := List.map_inj_left.mp hrow (b.toNat % 16) (List.mem_range.mpr (by omega))
  simpa [Nat.div_add_mod] using hcell

/-! ### The maps of R110 to R114, cell by cell -/

theorem baseGrid_encodes : GridEncodes baseGrid (layoutAfter []) := fun _ _ _ => eq_of_byteRows_eq rfl
theorem cbGrid_encodes : GridEncodes cbGrid (layoutAfter [0xCB]) := fun _ _ _ => eq_of_byteRows_eq rfl
theorem edGrid_encodes : GridEncodes edGrid (layoutAfter [0xED]) := fun _ _ _ => eq_of_byteRows_eq rfl
theorem ddGrid_encodes : GridEncodes ddGrid (layoutAfter [0xDD]) := fun _ _ _ => eq_of_byteRows_eq rfl
theorem fdGrid_encodes : GridEncodes fdGrid (layoutAfter [0xFD]) := fun _ _ _ => eq_of_byteRows_eq rfl
theorem ddcbGrid_encodes : GridEncodes ddcbGrid (layoutIndexedCb 0xDD) := fun _ _ _ => eq_of_byteRows_eq rfl
theorem fdcbGrid_encodes : GridEncodes fdcbGrid (layoutIndexedCb 0xFD) := fun _ _ _ => eq_of_byteRows_eq rfl

/-! ### The decode layers (R94) -/

/-- In a map the encoder agrees with, an accepted cell takes exactly its instruction's operand bytes. -/
theorem GridEncodes.layout_of_decodeOperands {grid : List (List Entry)} {layout : Byte → List Byte → Option (List Byte)}
    (hg : GridEncodes grid layout) {op : Byte} {why : Reject} {bs rest : List Byte} {i : Instr}
    (h : decodeOperands (gridAt grid op) why bs = .ok (i, rest)) :
    ∃ os, layout op os = some (encode i) ∧ bs = os ++ rest := by
  obtain ⟨n, d, nn, os, hsel, hbs⟩ := select_of_decodeOperands h
  have hcell := hg n d nn op
  simp only [hsel, Option.map_some, Option.bind_some] at hcell
  exact ⟨os, hcell.symm, hbs⟩

/-- The same where the operand bytes follow the opcode byte. -/
theorem GridEncodes.eq_encode_append {grid : List (List Entry)} {lead : List Byte} (hg : GridEncodes grid (layoutAfter lead))
    {op : Byte} {why : Reject} {bs rest : List Byte} {i : Instr}
    (h : decodeOperands (gridAt grid op) why bs = .ok (i, rest)) : lead ++ op :: bs = encode i ++ rest := by
  obtain ⟨os, hos, rfl⟩ := hg.layout_of_decodeOperands h
  rw [← Option.some.inj hos]
  simp

theorem eq_encode_append_of_decodeSecond {grid : List (List Entry)} {lead : Byte} (hg : GridEncodes grid (layoutAfter [lead]))
    {bs rest : List Byte} {i : Instr} (h : decodeSecond grid bs = .ok (i, rest)) : lead :: bs = encode i ++ rest := by
  unfold decodeSecond at h
  split at h
  next => cases h
  next op bs => exact hg.eq_encode_append h

theorem eq_encode_append_of_decodeIndexedCb {grid : List (List Entry)} {lead : Byte}
    (hg : GridEncodes grid (layoutIndexedCb lead)) {bs rest : List Byte} {i : Instr} (h : decodeIndexedCb lead grid bs = .ok (i, rest)) :
    lead :: 0xCB :: bs = encode i ++ rest := by
  unfold decodeIndexedCb at h
  split at h
  next d op bs =>
    obtain ⟨os, hos, hbs⟩ := hg.layout_of_decodeOperands h
    unfold layoutIndexedCb at hos
    split at hos
    next d' =>
      obtain ⟨rfl, rfl⟩ := List.cons.inj hbs
      rw [← Option.some.inj hos]
      rfl
    next => cases hos
  next => cases h

theorem eq_encode_append_of_decodeIndexed {grid cb : List (List Entry)} {lead : Byte} (hg : GridEncodes grid (layoutAfter [lead]))
    (hcb : GridEncodes cb (layoutIndexedCb lead)) {bs rest : List Byte} {i : Instr}
    (h : decodeIndexed lead grid cb bs = .ok (i, rest)) : lead :: bs = encode i ++ rest := by
  unfold decodeIndexed at h
  split at h
  next => cases h
  next op bs =>
    split_ifs at h with hop
    · rw [hop]; exact eq_encode_append_of_decodeIndexedCb hcb h
    · exact hg.eq_encode_append h

/-- The decoder takes exactly its instruction's own bytes off the sequence (R94). -/
theorem eq_encode_append_of_decode {bs rest : List Byte} {i : Instr} (h : decode bs = .ok (i, rest)) :
    bs = encode i ++ rest := by
  unfold decode at h
  split at h
  next => cases h
  next op bs =>
    split_ifs at h with hcb hed hdd hfd
    · rw [hcb]; exact eq_encode_append_of_decodeSecond cbGrid_encodes h
    · rw [hed]; exact eq_encode_append_of_decodeSecond edGrid_encodes h
    · rw [hdd]; exact eq_encode_append_of_decodeIndexed ddGrid_encodes ddcbGrid_encodes h
    · rw [hfd]; exact eq_encode_append_of_decodeIndexed fdGrid_encodes fdcbGrid_encodes h
    · exact baseGrid_encodes.eq_encode_append h

end Sys2Proof

namespace Sys2Proof.Machine

open Sys2Proof.Claims

theorem zipIdx_range (n : Nat) : (List.range n).zipIdx = (List.range n).map fun k => (k, k) :=
  List.ext_getElem (by simp) (by simp)

/-- `afterReads` of consecutive addresses records the reads that `Fetch()` makes (R93). -/
theorem fetched_eq_afterFetch (n : Nat) (s : State) : fetched Config.params n s = AfterFetch s n := by
  have hclear : clearEiPending Config.params (beginEvent s) = begun s := rfl
  unfold fetched
  rw [refresh_params, hclear, fetchBytes_eq]
  simp [AfterFetch, afterReads, addrsFrom, begun, List.zipIdx_map, zipIdx_range]

/-- A running core decodes what four reads from PC on answer (R93). -/
theorem step_running {s : State} (hs : Running s) {i : Instr} {rest : List Byte} (h : decode (fetchWindow s) = .ok (i, rest)) :
    step s = exec i (fetched Config.params (4 - rest.length) s) := by
  obtain ⟨hschedule, hhalted⟩ := hs
  simp [step, stepEvent, hschedule, hhalted, h]

end Sys2Proof.Machine

namespace Sys2Proof.Proofs

open Sys2Proof.Machine

/-- Settles O5: the decoder leaves what stands after the instruction's own bytes, so the step fetches just those. -/
theorem stepRunsDecodedInstruction : Obligations.StepRunsDecodedInstruction := by
  unfold Obligations.StepRunsDecodedInstruction
  intro s i rest hs h
  have hlength : (fetchWindow s).length = (encode i).length + rest.length := by
    rw [eq_encode_append_of_decode h, List.length_append]
  have hcount : 4 - rest.length = (encode i).length := by
    simp only [fetchWindow, List.length_cons, List.length_nil] at hlength
    omega
  rw [step_running hs h, hcount, fetched_eq_afterFetch]

end Sys2Proof.Proofs
end

section
/-! Signed overflow read off the sign bits, for every width (40_alu8.md R141, R142). -/

namespace Sys2Proof.Machine

/-- A word masked with its sign bit. -/
theorem and_signMask_ne_zero_iff {w : Nat} (v : BitVec (w + 1)) : v &&& BitVec.twoPow (w + 1) w ≠ 0 ↔ v.msb = true := by
  rw [BitVec.and_twoPow, BitVec.msb_eq_getLsbD_last, Nat.add_sub_cancel]
  split_ifs with h
  · simpa using h
  · simpa using h

/-- The sign of a result is not the sign of the exact value exactly where the value does not fit. -/
theorem msb_ofInt_ne_iff {w : Nat} {t : Int} (hlo : -2 ^ (w + 1) ≤ t) (hhi : t < 2 ^ (w + 1)) :
    (BitVec.ofInt (w + 1) t).msb ≠ decide (t < 0) ↔ t < -2 ^ w ∨ 2 ^ w ≤ t := by
  have hM : (0 : Int) < 2 ^ w := by positivity
  rw [BitVec.msb_eq_toInt, BitVec.toInt_ofInt, Int.bmod_def]
  push_cast
  rw [pow_succ] at hlo hhi ⊢
  generalize (2 : Int) ^ w = M at hM hlo hhi ⊢
  have hmod : t % (M * 2) = if t < 0 then t + M * 2 else t := by
    split_ifs
    · rw [← Int.add_emod_right, Int.emod_eq_of_lt] <;> omega
    · rw [Int.emod_eq_of_lt] <;> omega
  rw [hmod, ne_eq, decide_eq_decide]
  split_ifs <;> omega

/-- The signed range of a word, with its bound written as `2 ^ w`. -/
theorem toInt_range {w : Nat} (a : BitVec (w + 1)) : -2 ^ w ≤ a.toInt ∧ a.toInt < 2 ^ w := ⟨a.le_toInt, a.toInt_lt⟩

theorem msb_eq_msb_iff {w : Nat} (a b : BitVec w) : a.msb = b.msb ↔ (a.toInt < 0 ↔ b.toInt < 0) := by
  rw [BitVec.msb_eq_toInt, BitVec.msb_eq_toInt, decide_eq_decide]

theorem bitNat_le_one (c : Bool) : bitNat c ≤ 1 := by cases c <;> decide

/-- Where the operands' signs allow an overflow, the exact value has the sign of the first; where they do not, it fits. So the
result has the other sign exactly where the value does not fit. -/
theorem msb_changes_iff {w : Nat} {a : BitVec (w + 1)} {t : Int} {mayOverflow : Prop}
    (hlo : -2 ^ (w + 1) ≤ t) (hhi : t < 2 ^ (w + 1)) (hsign : mayOverflow → (a.toInt < 0 ↔ t < 0))
    (hfits : ¬ mayOverflow → -2 ^ w ≤ t ∧ t < 2 ^ w) :
    (mayOverflow ∧ a.msb ≠ (BitVec.ofInt (w + 1) t).msb) ↔ t < -2 ^ w ∨ 2 ^ w ≤ t := by
  by_cases h : mayOverflow
  · rw [and_iff_right h, ne_comm, BitVec.msb_eq_toInt (x := a), decide_eq_decide.mpr (hsign h), msb_ofInt_ne_iff hlo hhi]
  · have hrange := hfits h
    exact iff_of_false (fun hp => h hp.1) (by omega)

/-- "It is true exactly when a and b have the same sign and res has the other sign" (R141): that is where the sum does not fit. -/
theorem sum_signs_iff {w : Nat} (a b : BitVec (w + 1)) (c : Bool) :
    (a.msb = b.msb ∧ a.msb ≠ (BitVec.ofInt (w + 1) (a.toInt + b.toInt + bitNat c)).msb) ↔
      a.toInt + b.toInt + bitNat c < -2 ^ w ∨ 2 ^ w ≤ a.toInt + b.toInt + bitNat c := by
  have ha := toInt_range a
  have hb := toInt_range b
  have hc := bitNat_le_one c
  rw [msb_eq_msb_iff]
  apply msb_changes_iff <;> omega

/-- The same for a difference, whose operands have different signs where it does not fit (R142). -/
theorem difference_signs_iff {w : Nat} (a b : BitVec (w + 1)) (c : Bool) :
    (a.msb ≠ b.msb ∧ a.msb ≠ (BitVec.ofInt (w + 1) (a.toInt - b.toInt - bitNat c)).msb) ↔
      a.toInt - b.toInt - bitNat c < -2 ^ w ∨ 2 ^ w ≤ a.toInt - b.toInt - bitNat c := by
  have ha := toInt_range a
  have hb := toInt_range b
  have hc := bitNat_le_one c
  rw [ne_eq a.msb b.msb, msb_eq_msb_iff]
  apply msb_changes_iff <;> omega

/-! Sums and differences of the operands' unsigned or signed values, as words. -/

theorem ofInt_toInt_add {w : Nat} (a b : BitVec w) (n : Nat) :
    BitVec.ofInt w (a.toInt + b.toInt + n) = a + b + BitVec.ofNat w n := by
  rw [BitVec.ofInt_add, BitVec.ofInt_add, BitVec.ofInt_toInt, BitVec.ofInt_toInt, BitVec.ofInt_natCast]

theorem ofInt_toInt_sub {w : Nat} (a b : BitVec w) (n : Nat) :
    BitVec.ofInt w (a.toInt - b.toInt - n) = a - b - BitVec.ofNat w n := by
  simp only [Int.sub_eq_add_neg, BitVec.sub_eq_add_neg, BitVec.ofInt_add, BitVec.ofInt_neg, BitVec.ofInt_toInt,
    BitVec.ofInt_natCast]

theorem ofNat_toNat_add {w : Nat} (a : BitVec w) (n : Nat) : BitVec.ofNat w (a.toNat + n) = a + BitVec.ofNat w n := by
  rw [BitVec.ofNat_add, BitVec.ofNat_toNat, BitVec.setWidth_eq]

theorem ofInt_toNat_sub {w : Nat} (a : BitVec w) (n : Nat) : BitVec.ofInt w ((a.toNat : Int) - n) = a - BitVec.ofNat w n := by
  rw [Int.sub_eq_add_neg, BitVec.ofInt_add, BitVec.ofInt_neg, BitVec.ofInt_natCast, BitVec.ofInt_natCast, BitVec.ofNat_toNat,
    BitVec.setWidth_eq, ← BitVec.sub_eq_add_neg]

theorem ofNat_toNat_add_add {w : Nat} (a b : BitVec w) (n : Nat) :
    BitVec.ofNat w (a.toNat + b.toNat + n) = a + b + BitVec.ofNat w n := by
  rw [BitVec.ofNat_add, ofNat_toNat_add, BitVec.ofNat_toNat, BitVec.setWidth_eq]

theorem ofInt_toNat_sub_sub {w : Nat} (a b : BitVec w) (n : Nat) :
    BitVec.ofInt w ((a.toNat : Int) - b.toNat - n) = a - b - BitVec.ofNat w n := by
  rw [Int.sub_eq_add_neg, BitVec.ofInt_add, ofInt_toNat_sub, BitVec.ofInt_neg, BitVec.ofInt_natCast, BitVec.ofNat_toNat,
    BitVec.setWidth_eq, ← BitVec.sub_eq_add_neg]

/-- The overflow expression of R141, and of the 16-bit sums. -/
theorem sumOverflow_iff {w : Nat} (a b : BitVec (w + 1)) (c : Bool) :
    (a ^^^ b ^^^ BitVec.twoPow (w + 1) w) &&& (a ^^^ (a + b + BitVec.ofNat (w + 1) (bitNat c))) &&&
        BitVec.twoPow (w + 1) w ≠ 0 ↔
      a.toInt + b.toInt + bitNat c < -2 ^ w ∨ 2 ^ w ≤ a.toInt + b.toInt + bitNat c := by
  rw [← sum_signs_iff, ofInt_toInt_add, and_signMask_ne_zero_iff]
  simp [BitVec.msb_and, BitVec.msb_xor, BitVec.msb_twoPow]

/-- The overflow expression of R142, and of the 16-bit differences. -/
theorem differenceOverflow_iff {w : Nat} (a b : BitVec (w + 1)) (c : Bool) :
    (a ^^^ b) &&& (a ^^^ (a - b - BitVec.ofNat (w + 1) (bitNat c))) &&& BitVec.twoPow (w + 1) w ≠ 0 ↔
      a.toInt - b.toInt - bitNat c < -2 ^ w ∨ 2 ^ w ≤ a.toInt - b.toInt - bitNat c := by
  rw [← difference_signs_iff, ofInt_toInt_sub, and_signMask_ne_zero_iff]
  simp [BitVec.msb_and, BitVec.msb_xor]

end Sys2Proof.Machine
end

section
/-! 8-bit arithmetic and logic (40_alu8.md): what each primitive answers, flag by flag, then the instructions. -/

namespace Sys2Proof.Machine

open Sys2Proof.Claims

/-! ### Flags of a result byte (R13, R29) -/

theorem szxy_mirrors (r : Byte) (f : Flags) : Mirrors (szxy r f) r := by
  refine ⟨?_, decide_eq_true_iff, rfl, rfl⟩
  show r.getLsbD 7 = true ↔ r.toInt < 0
  rw [← decide_eq_true_iff (p := r.toInt < 0), ← BitVec.msb_eq_toInt, BitVec.msb_eq_getLsbD_last]

theorem parity_iff (v : Byte) : parity v = true ↔ EvenParity v := by
  rw [parity_eq_popcount, decide_eq_true_iff, EvenParity]

theorem overflows8_iff (n : Int) : Overflows8 n ↔ n < -2 ^ 7 ∨ 2 ^ 7 ≤ n := by
  unfold Overflows8
  omega

/-! ### Sums (R141) -/

theorem add8_fst (a b : Byte) (c : Bool) (f : Flags) : (add8 a b c f).1 = a + b + byte (bitNat c) := ofNat_toNat_add_add a b _

theorem add8_mirrors (a b : Byte) (c : Bool) (f : Flags) : Mirrors (add8 a b c f).2 (a + b + byte (bitNat c)) := by
  rw [← add8_fst a b c f]
  exact szxy_mirrors _ f

theorem add8_H_iff (a b : Byte) (c : Bool) (f : Flags) :
    (add8 a b c f).2.H = true ↔ 15 < a.toNat % 16 + b.toNat % 16 + bitNat c := decide_eq_true_iff

theorem add8_PV_iff (a b : Byte) (c : Bool) (f : Flags) :
    (add8 a b c f).2.PV = true ↔ Overflows8 (a.toInt + b.toInt + bitNat c) := by
  rw [overflows8_iff, ← sumOverflow_iff, ← ofNat_toNat_add_add]
  exact decide_eq_true_iff

theorem add8_C_iff (a b : Byte) (c : Bool) (f : Flags) :
    (add8 a b c f).2.C = true ↔ 255 < a.toNat + b.toNat + bitNat c := decide_eq_true_iff

/-! ### Differences (R142) -/

theorem sub8_fst (a b : Byte) (c : Bool) (f : Flags) : (sub8 a b c f).1 = a - b - byte (bitNat c) := ofInt_toNat_sub_sub a b _

theorem sub8_mirrors (a b : Byte) (c : Bool) (f : Flags) : Mirrors (sub8 a b c f).2 (a - b - byte (bitNat c)) := by
  rw [← sub8_fst a b c f]
  exact szxy_mirrors _ f

theorem sub8_H_iff (a b : Byte) (c : Bool) (f : Flags) :
    (sub8 a b c f).2.H = true ↔ a.toNat % 16 < b.toNat % 16 + bitNat c := by
  simp only [sub8, decide_eq_true_iff]
  omega

theorem sub8_PV_iff (a b : Byte) (c : Bool) (f : Flags) :
    (sub8 a b c f).2.PV = true ↔ Overflows8 (a.toInt - b.toInt - bitNat c) := by
  rw [overflows8_iff, ← differenceOverflow_iff, ← ofInt_toNat_sub_sub]
  exact decide_eq_true_iff

theorem sub8_C_iff (a b : Byte) (c : Bool) (f : Flags) : (sub8 a b c f).2.C = true ↔ a.toNat < b.toNat + bitNat c := by
  simp only [sub8, decide_eq_true_iff]
  omega

/-! ### Logic, increment and decrement (R143 to R145) -/

theorem logic8_mirrors (r : Byte) (h : Bool) (f : Flags) : Mirrors (logic8 r h f).2 r := szxy_mirrors r f

theorem inc8_fst (v : Byte) (f : Flags) : (inc8 v f).1 = v + 1 := ofNat_toNat_add v 1

theorem inc8_mirrors (v : Byte) (f : Flags) : Mirrors (inc8 v f).2 (v + 1) := by
  rw [← inc8_fst v f]
  exact szxy_mirrors _ f

theorem dec8_fst (v : Byte) (f : Flags) : (dec8 v f).1 = v - 1 := ofInt_toNat_sub v 1

theorem dec8_mirrors (v : Byte) (f : Flags) : Mirrors (dec8 v f).2 (v - 1) := by
  rw [← dec8_fst v f]
  exact szxy_mirrors _ f

/-! ### Decimal adjustment (R161) -/

/-- What DAA adds to A, or takes off it: `diff` of R161. -/
def daaDiff (a : Byte) (f : Flags) : Nat :=
  (if f.H || decide (a.toNat % 16 > 9) then 0x06 else 0) ||| (if f.C || decide (a.toNat > 0x99) then 0x60 else 0)

theorem daa8_fst (a : Byte) (f : Flags) :
    (daa8 a f).1 = if f.N then a - byte (daaDiff a f) else a + byte (daaDiff a f) := by
  show (if f.N then BitVec.ofInt 8 ((a.toNat : Int) - daaDiff a f) else BitVec.ofNat 8 (a.toNat + daaDiff a f)) = _
  rw [ofInt_toNat_sub, ofNat_toNat_add]
  rfl

theorem daa8_mirrors (a : Byte) (f : Flags) : Mirrors (daa8 a f).2 (daa8 a f).1 := szxy_mirrors _ f

theorem daa8_PV_iff (a : Byte) (f : Flags) : (daa8 a f).2.PV = true ↔ EvenParity (daa8 a f).1 := parity_iff _

theorem daa8_H_iff (a : Byte) (f : Flags) :
    (daa8 a f).2.H = true ↔ if f.N then f.H = true ∧ a.toNat % 16 < 6 else 9 < a.toNat % 16 := by
  show (if f.N then f.H && decide (a.toNat % 16 < 6) else decide (a.toNat % 16 > 9)) = true ↔ _
  split_ifs
  · rw [Bool.and_eq_true, decide_eq_true_iff]
  · exact decide_eq_true_iff

theorem daa8_C_iff (a : Byte) (f : Flags) : (daa8 a f).2.C = true ↔ f.C = true ∨ 0x99 < a.toNat := by
  show (f.C || decide (a.toNat > 0x99)) = true ↔ _
  rw [Bool.or_eq_true, decide_eq_true_iff]

/-- The four corrections of R161, by what H and the low digit, C and the whole of A ask for. -/
theorem daaDiff_cases (a : Byte) (f : Flags) :
    let low : Prop := f.H = true ∨ 9 < a.toNat % 16
    let high : Prop := f.C = true ∨ 0x99 < a.toNat
    (low ∧ high ∧ byte (daaDiff a f) = 0x66) ∨ (low ∧ ¬ high ∧ byte (daaDiff a f) = 0x06) ∨
      (¬ low ∧ high ∧ byte (daaDiff a f) = 0x60) ∨ (¬ low ∧ ¬ high ∧ byte (daaDiff a f) = 0) := by
  intro low high
  have hdiff : daaDiff a f = (if low then 0x06 else 0) ||| (if high then 0x60 else 0) := by
    simp only [daaDiff, Bool.or_eq_true, decide_eq_true_iff, low, high, gt_iff_lt]
  rw [hdiff]
  split_ifs with hlow hhigh hhigh
  · exact .inl ⟨hlow, hhigh, rfl⟩
  · exact .inr (.inl ⟨hlow, hhigh, rfl⟩)
  · exact .inr (.inr (.inl ⟨hlow, hhigh, rfl⟩))
  · exact .inr (.inr (.inr ⟨hlow, hhigh, rfl⟩))

/-! ### The instructions -/

/-- A place modified, through `withFlags`: the read, the flags, the write (20_memory.md R68). -/
theorem State.modify_eq (s : State) (p : Place8) (g : Byte → Flags → Byte × Flags) :
    s.modify p g = (withFlags (s.readPlace p).2 (g (s.readPlace p).1 s.F).2).writePlace p (g (s.readPlace p).1 s.F).1 := rfl

/-- The bytes of every ALU instruction (R140). -/
theorem encode_alu (op : AluOp) (src : AluSrc) : encode (Form.alu op src).instr = aluBytes op src := by
  cases op <;> rcases src with ⟨⟨⟩⟩ | ⟨⟨⟩, ⟨⟩⟩ | _ | ⟨⟨⟩, _⟩ | _ <;> rfl

/-- An ALU instruction reads its source and puts the operation's result in A and F (R151 to R158). -/
theorem exec_alu (op : AluOp) (src : AluSrc) (s : State) :
    exec (Form.alu op src).instr s = .next { (s.readSrc src.src).2 with
      A := (alu8 op s.A (s.readSrc src.src).1 s.F).1, F := (alu8 op s.A (s.readSrc src.src).1 s.F).2 } := exec_form _ s

/-- ADD and ADC are one sum, with the carry in that the operation takes (R151, R152). -/
theorem alu8_sum {op : AluOp} (hop : op = .ADD ∨ op = .ADC) (a v : Byte) (f : Flags) :
    ∃ c, bitNat c = (if op = .ADC then bitNat f.C else 0) ∧ alu8 op a v f = add8 a v c f := by
  rcases hop with rfl | rfl
  · exact ⟨false, rfl, rfl⟩
  · exact ⟨f.C, rfl, rfl⟩

/-- SUB, SBC and CP are one difference, with the borrow in that the operation takes; CP keeps A and takes F5 and F3 from the
operand (R153, R154, R158). -/
theorem alu8_difference {op : AluOp} (hop : op = .SUB ∨ op = .SBC ∨ op = .CP) (a v : Byte) (f : Flags) :
    ∃ c, bitNat c = (if op = .SBC then bitNat f.C else 0) ∧
      alu8 op a v f = (if op = .CP then a else (sub8 a v c f).1, { (sub8 a v c f).2 with
        F5 := if op = .CP then v.getLsbD 5 else (sub8 a v c f).2.F5
        F3 := if op = .CP then v.getLsbD 3 else (sub8 a v c f).2.F3 }) := by
  rcases hop with rfl | rfl | rfl
  · exact ⟨false, rfl, rfl⟩
  · exact ⟨f.C, rfl, rfl⟩
  · exact ⟨false, rfl, rfl⟩

/-- AND, XOR and OR are one operation on a result made bit by bit; only AND sets H (R155 to R157). -/
theorem alu8_logic {op : AluOp} (hop : op = .AND ∨ op = .XOR ∨ op = .OR) (a v : Byte) (f : Flags) :
    ∃ r, alu8 op a v f = logic8 r (decide (op = .AND)) f ∧ ∀ j, r.getLsbD j =
      (if op = .AND then a.getLsbD j && v.getLsbD j
       else if op = .XOR then a.getLsbD j ^^ v.getLsbD j else a.getLsbD j || v.getLsbD j) := by
  rcases hop with rfl | rfl | rfl
  · exact ⟨a &&& v, rfl, fun _ => BitVec.getLsbD_and⟩
  · exact ⟨a ^^^ v, rfl, fun _ => BitVec.getLsbD_xor⟩
  · exact ⟨a ||| v, rfl, fun _ => BitVec.getLsbD_or⟩

theorem exec_incM (m : IncPlace) (s : State) :
    exec (Form.incM m).instr s = .next ((withFlags (s.readPlace m.place).2 (inc8 (s.readPlace m.place).1 s.F).2).writePlace
      m.place ((s.readPlace m.place).1 + 1)) := by
  rw [exec_form, ← inc8_fst _ s.F, ← State.modify_eq]
  rfl

theorem exec_decM (m : IncPlace) (s : State) :
    exec (Form.decM m).instr s = .next ((withFlags (s.readPlace m.place).2 (dec8 (s.readPlace m.place).1 s.F).2).writePlace
      m.place ((s.readPlace m.place).1 - 1)) := by
  rw [exec_form, ← dec8_fst _ s.F, ← State.modify_eq]
  rfl

theorem exec_daa_eq (s : State) :
    exec .daa s = .next { s with A := (daa8 s.A s.F).1, F := (daa8 s.A s.F).2 } := exec_form .daa s

end Sys2Proof.Machine

namespace Sys2Proof.Proofs

open Sys2Proof.Machine Sys2Proof.Claims

/-- Settles O25: ADD and ADC are one sum, and the laws of `add8` say its result and each flag. -/
theorem addAndAdcResult : Obligations.AddAndAdcResult := by
  unfold Obligations.AddAndAdcResult
  intro op src s hop v carry r
  obtain ⟨c, hc, halu⟩ := alu8_sum hop s.A v s.F
  simp only [r, carry, ← hc]
  refine ⟨(add8 s.A v c s.F).2, ?_, ?_⟩
  · rw [exec_alu, halu, add8_fst]
  · exact ⟨add8_mirrors s.A v c s.F, add8_H_iff s.A v c s.F, add8_PV_iff s.A v c s.F, rfl, add8_C_iff s.A v c s.F⟩

/-- Settles O26: SUB, SBC and CP are one difference, and the laws of `sub8` say its result and each flag; what CP does otherwise
stands in `alu8_difference`. -/
theorem subSbcAndCpResult : Obligations.SubSbcAndCpResult := by
  unfold Obligations.SubSbcAndCpResult
  intro op src s hop v borrow r
  obtain ⟨c, hc, halu⟩ := alu8_difference hop s.A v s.F
  obtain ⟨hS, hZ, h5, h3⟩ := sub8_mirrors s.A v c s.F
  simp only [r, borrow, ← hc, ← h5, ← h3]
  refine ⟨encode_alu op src, (alu8 op s.A v s.F).2, ?_, ?_⟩
  · rw [exec_alu, halu, sub8_fst]
  · rw [halu]
    exact ⟨hS, hZ, rfl, rfl, sub8_H_iff s.A v c s.F, sub8_PV_iff s.A v c s.F, rfl, sub8_C_iff s.A v c s.F⟩

/-- Settles O27: the three operations differ in the result's bits and in H, as `alu8_logic` says. -/
theorem logicResult : Obligations.LogicResult := by
  unfold Obligations.LogicResult
  intro op src s hop v
  obtain ⟨r, halu, hbits⟩ := alu8_logic hop s.A v s.F
  refine ⟨r, (logic8 r (decide (op = .AND)) s.F).2, ?_, hbits, ?_⟩
  · rw [exec_alu, halu]
    rfl
  · exact ⟨logic8_mirrors _ _ _, decide_eq_true_iff, parity_iff r, rfl, rfl⟩

/-- Settles O28: `inc8` and `dec8` over a place read and written once; neither names C. -/
theorem incAndDecResult : Obligations.IncAndDecResult := by
  unfold Obligations.IncAndDecResult
  intro m s v
  constructor
  · exact ⟨_, exec_incM m s, inc8_mirrors v s.F, decide_eq_true_iff, decide_eq_true_iff, rfl, rfl⟩
  · exact ⟨_, exec_decM m s, dec8_mirrors v s.F, decide_eq_true_iff, decide_eq_true_iff, rfl, rfl⟩

/-- Settles O31: the correction is `daaDiff`, and the laws of `daa8` say each flag. -/
theorem decimalAdjustRule : Obligations.DecimalAdjustRule := by
  unfold Obligations.DecimalAdjustRule
  intro s low high
  refine ⟨rfl, byte (daaDiff s.A s.F), (daa8 s.A s.F).2, daaDiff_cases s.A s.F, ?_⟩
  rw [← daa8_fst]
  exact ⟨exec_daa_eq s, daa8_mirrors _ _, daa8_PV_iff _ _, daa8_H_iff _ _, rfl, daa8_C_iff _ _⟩

end Sys2Proof.Proofs
end

section
/-! 16-bit arithmetic (41_alu16.md): what each primitive answers, flag by flag, then the instructions. -/

namespace Sys2Proof.Machine

open Sys2Proof.Claims

/-! ### Flags of a result word -/

theorem getLsbD_last_iff {w : Nat} (v : BitVec (w + 1)) : v.getLsbD w = true ↔ v.toInt < 0 := by
  rw [← decide_eq_true_iff (p := v.toInt < 0), ← BitVec.msb_eq_toInt, BitVec.msb_eq_getLsbD_last, Nat.add_sub_cancel]

theorem overflows16_iff (n : Int) : Overflows16 n ↔ n < -2 ^ 15 ∨ 2 ^ 15 ≤ n := by
  unfold Overflows16
  omega

/-! ### Sums (R181, R182) -/

theorem addWord_fst (a b : Word) (f : Flags) : (addWord a b f).1 = a + b := by
  show BitVec.ofNat 16 (a.toNat + b.toNat) = a + b
  rw [ofNat_toNat_add, BitVec.ofNat_toNat, BitVec.setWidth_eq]

theorem addWord_H_iff (a b : Word) (f : Flags) :
    (addWord a b f).2.H = true ↔ 4095 < a.toNat % 4096 + b.toNat % 4096 := decide_eq_true_iff

theorem addWord_C_iff (a b : Word) (f : Flags) : (addWord a b f).2.C = true ↔ 65535 < a.toNat + b.toNat := decide_eq_true_iff

theorem adcWord_fst (a b : Word) (f : Flags) : (adcWord a b f).1 = a + b + BitVec.ofNat 16 (bitNat f.C) :=
  ofNat_toNat_add_add a b _

theorem adcWord_H_iff (a b : Word) (f : Flags) :
    (adcWord a b f).2.H = true ↔ 4095 < a.toNat % 4096 + b.toNat % 4096 + bitNat f.C := decide_eq_true_iff

theorem adcWord_PV_iff (a b : Word) (f : Flags) :
    (adcWord a b f).2.PV = true ↔ Overflows16 (a.toInt + b.toInt + bitNat f.C) := by
  rw [overflows16_iff, ← sumOverflow_iff, ← ofNat_toNat_add_add]
  exact decide_eq_true_iff

theorem adcWord_C_iff (a b : Word) (f : Flags) :
    (adcWord a b f).2.C = true ↔ 65535 < a.toNat + b.toNat + bitNat f.C := decide_eq_true_iff

/-! ### Differences (R183) -/

theorem sbcWord_fst (a b : Word) (f : Flags) : (sbcWord a b f).1 = a - b - BitVec.ofNat 16 (bitNat f.C) :=
  ofInt_toNat_sub_sub a b _

theorem sbcWord_H_iff (a b : Word) (f : Flags) :
    (sbcWord a b f).2.H = true ↔ a.toNat % 4096 < b.toNat % 4096 + bitNat f.C := by
  simp only [sbcWord, decide_eq_true_iff]
  omega

theorem sbcWord_PV_iff (a b : Word) (f : Flags) :
    (sbcWord a b f).2.PV = true ↔ Overflows16 (a.toInt - b.toInt - bitNat f.C) := by
  rw [overflows16_iff, ← differenceOverflow_iff, ← ofInt_toNat_sub_sub]
  exact decide_eq_true_iff

theorem sbcWord_C_iff (a b : Word) (f : Flags) : (sbcWord a b f).2.C = true ↔ a.toNat < b.toNat + bitNat f.C := by
  simp only [sbcWord, decide_eq_true_iff]
  omega

/-! ### The instructions -/

/-- A 16-bit operation through `withFlags`: the flags, then the destination, both computed from the state before. -/
theorem opWord_eq (g : Word → Word → Flags → Word × Flags) (dst src : Reg16) (s : State) :
    opWord g dst src s =
      (withFlags s (g (s.get16 dst) (s.get16 src) s.F).2).set16 dst (g (s.get16 dst) (s.get16 src) s.F).1 := rfl

theorem encode_add16 (dst : Xx) (src : Rp) :
    encode (Form.add16 dst src).instr = leadOf dst ++ [byte (0x09 + 16 * rpCode src)] := by
  cases dst <;> cases src <;> rfl

theorem exec_add16 (dst : Xx) (src : Rp) (s : State) :
    exec (Form.add16 dst src).instr s =
      .next ((withFlags s (addWord (s.get16 dst.reg) (s.get16 (src.addSource dst)) s.F).2).set16 dst.reg
        (s.get16 dst.reg + s.get16 (src.addSource dst))) := by
  rw [exec_form, ← addWord_fst _ _ s.F, ← opWord_eq]
  rfl

theorem encode_adc16 (src : Rp) : encode (Form.adc16 src).instr = [0xED, byte (0x4A + 16 * rpCode src)] := by
  cases src <;> rfl

theorem exec_adc16 (src : Rp) (s : State) :
    exec (Form.adc16 src).instr s =
      .next ((withFlags s (adcWord (s.get16 .HL) (s.get16 src.reg) s.F).2).set16 .HL
        (s.get16 .HL + s.get16 src.reg + BitVec.ofNat 16 (bitNat s.F.C))) := by
  rw [exec_form, ← adcWord_fst, ← opWord_eq]
  rfl

theorem encode_sbc16 (src : Rp) : encode (Form.sbc16 src).instr = [0xED, byte (0x42 + 16 * rpCode src)] := by
  cases src <;> rfl

theorem exec_sbc16 (src : Rp) (s : State) :
    exec (Form.sbc16 src).instr s =
      .next ((withFlags s (sbcWord (s.get16 .HL) (s.get16 src.reg) s.F).2).set16 .HL
        (s.get16 .HL - s.get16 src.reg - BitVec.ofNat 16 (bitNat s.F.C))) := by
  rw [exec_form, ← sbcWord_fst, ← opWord_eq]
  rfl

theorem encode_inc16 (rr : Rr) : encode (Form.inc16 rr).instr = (rrCode rr).1 ++ [byte (0x03 + 16 * (rrCode rr).2)] := by
  cases rr <;> rfl

theorem encode_dec16 (rr : Rr) : encode (Form.dec16 rr).instr = (rrCode rr).1 ++ [byte (0x0B + 16 * (rrCode rr).2)] := by
  cases rr <;> rfl

theorem exec_inc16 (rr : Rr) (s : State) :
    exec (Form.inc16 rr).instr s = .next (s.set16 rr.reg (s.get16 rr.reg + 1)) := exec_form _ s

/-- Adding 0xFFFF is taking one off (R185). -/
theorem exec_dec16 (rr : Rr) (s : State) :
    exec (Form.dec16 rr).instr s = .next (s.set16 rr.reg (s.get16 rr.reg - 1)) := by
  rw [exec_form, BitVec.sub_eq_add_neg]
  rfl

/-- No operand of INC rr and DEC rr is AF, so writing one leaves the flags (R23). -/
@[simp] theorem State.set16_Rr_F (s : State) (rr : Rr) (v : Word) : (s.set16 rr.reg v).F = s.F := by cases rr <;> rfl

end Sys2Proof.Machine

namespace Sys2Proof.Proofs

open Sys2Proof.Machine Sys2Proof.Claims

/-- Settles O32: the result is `addWord_fst`, and `addWord` writes just the flags R181 names. -/
theorem addWordResult : Obligations.AddWordResult := by
  unfold Obligations.AddWordResult
  intro dst src s a b
  refine ⟨encode_add16 dst src, (addWord a b s.F).2, exec_add16 dst src s, ?_⟩
  rw [← addWord_fst a b s.F]
  exact ⟨rfl, rfl, rfl, rfl, rfl, addWord_H_iff a b s.F, rfl, addWord_C_iff a b s.F⟩

/-- Settles O33: the laws of `adcWord` and `sbcWord` say each result and its flags; S, Z, F5 and F3 are read off the result. -/
theorem adcAndSbcWordResult : Obligations.AdcAndSbcWordResult := by
  unfold Obligations.AdcAndSbcWordResult
  intro src s a b c
  refine ⟨encode_adc16 src, encode_sbc16 src, ?_, ?_⟩
  · refine ⟨(adcWord a b s.F).2, exec_adc16 src s, ?_⟩
    rw [← adcWord_fst a b s.F]
    exact ⟨getLsbD_last_iff _, decide_eq_true_iff, rfl, rfl, adcWord_H_iff a b s.F, adcWord_PV_iff a b s.F, rfl,
      adcWord_C_iff a b s.F⟩
  · refine ⟨(sbcWord a b s.F).2, exec_sbc16 src s, ?_⟩
    rw [← sbcWord_fst a b s.F]
    exact ⟨getLsbD_last_iff _, decide_eq_true_iff, rfl, rfl, sbcWord_H_iff a b s.F, sbcWord_PV_iff a b s.F, rfl,
      sbcWord_C_iff a b s.F⟩

/-- Settles O34: the two steps, and that no register they name holds the flags. -/
theorem incAndDecWordResult : Obligations.IncAndDecWordResult := by
  unfold Obligations.IncAndDecWordResult
  intro rr s
  exact ⟨encode_inc16 rr, encode_dec16 rr, s.set16_Rr_F rr, exec_inc16 rr s, exec_dec16 rr s⟩

end Sys2Proof.Proofs
end

section
/-! Accumulator and digit rotates (42_rotate_shift.md R200 to R204, R215, R216): the rotated byte, the digits, the instructions. -/

namespace Sys2Proof.Machine

open Sys2Proof.Claims

/-! ### The four rotations of A (R201 to R204) -/

/-- Shifted right until one bit is left, a word is its sign bit. -/
theorem ushiftRight_last {w : Nat} (v : BitVec (w + 1)) : v >>> w = BitVec.ofNat (w + 1) (bitNat v.msb) := by
  apply BitVec.eq_of_getLsbD_eq
  intro i hi
  rw [BitVec.getLsbD_ushiftRight, BitVec.msb_eq_getLsbD_last, Nat.add_sub_cancel]
  cases i with
  | zero => cases v.getLsbD w <;> simp [bitNat]
  | succ i =>
    rw [BitVec.getLsbD_of_ge v _ (by omega)]
    cases v.getLsbD w <;> simp [bitNat]

/-- Shifted left until one bit is left, a word is its lowest bit. -/
theorem shiftLeft_last {w : Nat} (v : BitVec (w + 1)) : v <<< w = BitVec.ofNat (w + 1) (bitNat (v.getLsbD 0)) <<< w := by
  apply BitVec.eq_of_getLsbD_eq
  intro i hi
  rw [BitVec.getLsbD_shiftLeft, BitVec.getLsbD_shiftLeft]
  rcases Nat.lt_succ_iff_lt_or_eq.mp hi with h | rfl
  · simp [h]
  · rw [Nat.sub_self]
    cases v.getLsbD 0 <;> simp [bitNat]

theorem rotByte_RLC (v : Byte) (c : Bool) : rotByte .RLC v c = (v.rotateLeft 1, v.msb) := by
  show (v <<< 1 ||| BitVec.ofNat 8 (bitNat v.msb), v.msb) = (v <<< 1 ||| v >>> 7, v.msb)
  rw [ushiftRight_last]

theorem rotByte_RRC (v : Byte) (c : Bool) : rotByte .RRC v c = (v.rotateRight 1, v.getLsbD 0) := by
  show (v >>> 1 ||| BitVec.ofNat 8 (bitNat (v.getLsbD 0)) <<< 7, v.getLsbD 0) = (v >>> 1 ||| v <<< 7, v.getLsbD 0)
  rw [← shiftLeft_last]

theorem rotByte_RL (v : Byte) (c : Bool) : rotByte .RL v c = (v <<< 1 ||| byte (bitNat c), v.msb) := rfl

theorem rotByte_RR (v : Byte) (c : Bool) : rotByte .RR v c = (v >>> 1 ||| byte (bitNat c) <<< 7, v.getLsbD 0) := rfl

/-- An accumulator rotate puts the rotated byte in A and the bit shifted out in C (R200). -/
theorem exec_accRot {i : Instr} {op : RotOp} {s : State} {r : Byte} {c : Bool} (hi : exec i s = .next (opAccRot op s))
    (h : rotByte op s.A s.F.C = (r, c)) : exec i s = .next { s with A := r, F := accRotFlags r c s.F } := by
  rw [hi, opAccRot, h]

/-! ### Two digits in a byte (R215, R216) -/

theorem toNat_low_digit (v : Byte) : (v &&& 0x0F).toNat = v.toNat % 16 := Nat.and_two_pow_sub_one_eq_mod v.toNat 4

theorem toNat_high_digit (v : Byte) : (v >>> 4).toNat = v.toNat / 16 := Nat.shiftRight_eq_div_pow v.toNat 4

/-- A byte with its low digit cleared. -/
theorem and_high_digit (v : Byte) : v &&& (0xF0 : Byte) = (v >>> 4) <<< 4 := (BitVec.shiftLeft_ushiftRight (n := 4)).symm

/-- A digit shifted in below the low digit of a byte. -/
theorem shiftLeft_or_digit (h : Byte) {l : Byte} (hl : l.toNat < 16) : h <<< 4 ||| l = byte (h.toNat % 16 * 16 + l.toNat) := by
  have hlow : h.toNat <<< 4 % 256 = (h.toNat % 16) <<< 4 := by
    rw [Nat.shiftLeft_eq, Nat.shiftLeft_eq]
    omega
  have hbyte : h.toNat % 16 * 16 + l.toNat < 2 ^ 8 := by omega
  apply BitVec.eq_of_toNat_eq
  calc (h <<< 4 ||| l).toNat = (h.toNat % 16) <<< 4 ||| l.toNat := by rw [BitVec.toNat_or, BitVec.toNat_shiftLeft, ← hlow]
    _ = h.toNat % 16 * 16 + l.toNat := by rw [← Nat.shiftLeft_add_eq_or_of_lt hl, Nat.shiftLeft_eq]
    _ = (byte (h.toNat % 16 * 16 + l.toNat)).toNat := by rw [byte, BitVec.toNat_ofNat, Nat.mod_eq_of_lt hbyte]

/-- The bytes RLD and RRD write to memory: the low digit of `h` above a digit of `v`, first the low one. -/
theorem shiftLeft_or_low_digit (h v : Byte) : h <<< 4 ||| (v &&& 0x0F) = byte (h.toNat % 16 * 16 + v.toNat % 16) := by
  have hv := toNat_low_digit v
  rw [shiftLeft_or_digit h (by omega), hv]

theorem shiftLeft_or_high_digit (h v : Byte) : h <<< 4 ||| v >>> 4 = byte (h.toNat % 16 * 16 + v.toNat / 16) := by
  have hv := toNat_high_digit v
  rw [shiftLeft_or_digit h (by omega), hv]

/-- The bytes RRD and RLD leave in A: its high digit stays above a digit of `v`. -/
theorem high_digit_or_low_digit (a v : Byte) : a &&& (0xF0 : Byte) ||| (v &&& 0x0F) = byte (a.toNat / 16 * 16 + v.toNat % 16) := by
  rw [and_high_digit, shiftLeft_or_low_digit, toNat_high_digit, Nat.mod_eq_of_lt (by omega)]

theorem high_digit_or_high_digit (a v : Byte) : a &&& (0xF0 : Byte) ||| v >>> 4 = byte (a.toNat / 16 * 16 + v.toNat / 16) := by
  rw [and_high_digit, shiftLeft_or_high_digit, toNat_high_digit, Nat.mod_eq_of_lt (by omega)]

/-! ### The instructions -/

theorem byteFlags_mirrors (v : Byte) (pv : Bool) (f : Flags) : Mirrors (byteFlags v pv f) v := szxy_mirrors v f

theorem exec_rld_eq (s : State) :
    let v := s.peek (s.get16 .HL)
    let r := byte (s.A.toNat / 16 * 16 + v.toNat / 16)
    exec .rld s = .next { (s.memRead (s.get16 .HL)).2.memWrite (s.get16 .HL) (byte (v.toNat % 16 * 16 + s.A.toNat % 16)) with
      A := r, F := byteFlags r (parity r) s.F } := by
  intro v r
  simp only [r, ← high_digit_or_high_digit, ← shiftLeft_or_low_digit]
  exact exec_form .rld s

theorem exec_rrd_eq (s : State) :
    let v := s.peek (s.get16 .HL)
    let r := byte (s.A.toNat / 16 * 16 + v.toNat % 16)
    exec .rrd s = .next { (s.memRead (s.get16 .HL)).2.memWrite (s.get16 .HL) (byte (s.A.toNat % 16 * 16 + v.toNat / 16)) with
      A := r, F := byteFlags r (parity r) s.F } := by
  intro v r
  simp only [r, ← high_digit_or_low_digit, ← shiftLeft_or_high_digit]
  exact exec_form .rrd s

/-- "No index form exists" (R215): the maps of DD and FD have no instruction at ED (R103). -/
theorem undefined_leadByte_ED (x : Idx) : Undefined (leadByte x) 0xED := by
  intro rest
  cases x with
  | IX => exact ⟨.noIndexForm 0xDD 0xED, rfl⟩
  | IY => exact ⟨.noIndexForm 0xFD 0xED, rfl⟩

end Sys2Proof.Machine

namespace Sys2Proof.Proofs

open Sys2Proof.Machine Sys2Proof.Claims

/-- Settles O36: each rotation's byte and bit out, put in A and C by the one operation of R200. -/
theorem accumulatorRotateResult : Obligations.AccumulatorRotateResult := by
  unfold Obligations.AccumulatorRotateResult
  intro s flags rla rra
  refine ⟨rfl, rfl, rfl, rfl, ?_, ?_, ?_, ?_⟩
  · exact exec_accRot (exec_form .rlca s) (rotByte_RLC s.A s.F.C)
  · exact exec_accRot (exec_form .rrca s) (rotByte_RRC s.A s.F.C)
  · exact exec_accRot (exec_form .rla s) (rotByte_RL s.A s.F.C)
  · exact exec_accRot (exec_form .rra s) (rotByte_RR s.A s.F.C)

/-- Settles O37: the two next states, whose flags are those of the byte left in A. -/
theorem digitRotateResult : Obligations.DigitRotateResult := by
  unfold Obligations.DigitRotateResult
  intro s p m a
  refine ⟨rfl, rfl, undefined_leadByte_ED, ?_, ?_⟩
  · exact ⟨_, exec_rld_eq s, byteFlags_mirrors _ _ _, rfl, parity_iff _, rfl, rfl⟩
  · exact ⟨_, exec_rrd_eq s, byteFlags_mirrors _ _ _, rfl, parity_iff _, rfl, rfl⟩

end Sys2Proof.Proofs
end

section
/-! Block instructions (44_block.md): the directions, the flags of an element, its next state, and the rewind of PC. -/

namespace Sys2Proof.Machine

open Sys2Proof.Claims

/-! ### Directions -/

/-- Adding 0xFFFF to a pointer is taking one off (R252). -/
@[simp] theorem add_dirWord_down (v : Word) : v + dirWord .down = v - 1 := (BitVec.sub_eq_add_neg v 1).symm

@[simp] theorem add_dirByte_down (v : Byte) : v + dirByte .down = v - 1 := (BitVec.sub_eq_add_neg v 1).symm

theorem loByte_eq_setWidth (v : Word) : loByte v = v.setWidth 8 := BitVec.ofNat_toNat 8 v

theorem loByte_add (v w : Word) : loByte (v + w) = loByte v + loByte w := by
  simp only [loByte_eq_setWidth]
  exact BitVec.setWidth_add v w (by decide)

theorem loByte_dirWord (dir : BlockDir) : loByte (dirWord dir) = dirByte dir := by cases dir <;> rfl

/-- The low half of a pointer after its update (R265): the carry goes to the high half. -/
theorem loByte_joinBytes_add_dirWord (h l : Byte) (dir : BlockDir) : loByte (joinBytes h l + dirWord dir) = l + dirByte dir := by
  rw [loByte_add, loByte_joinBytes, loByte_dirWord]

/-! ### Flags of an element -/

/-- "ParityOverflow = (BC≠0 after decrement)" (R251, R256). -/
theorem decide_ne_eq_bne (bc : Word) : decide (bc ≠ 0) = (bc != 0) := by rw [decide_not, bne, beq_eq_decide]

theorem blockCpFlags_S_iff (a v : Byte) (bc : Word) (f : Flags) :
    (blockCpFlags a v bc f).S = true ↔ (a - v).toInt < 0 := getLsbD_last_iff _

theorem blockCpFlags_Z_iff (a v : Byte) (bc : Word) (f : Flags) : (blockCpFlags a v bc f).Z = true ↔ a = v :=
  decide_eq_true_iff.trans sub_eq_zero

theorem blockCpFlags_H_iff (a v : Byte) (bc : Word) (f : Flags) :
    (blockCpFlags a v bc f).H = true ↔ a.toNat % 16 < v.toNat % 16 := decide_eq_true_iff

/-- The flags of R260, for a byte `v` transferred, B after its decrement and the sum `k`. -/
theorem blockIoFlags_spec (v b : Byte) (k : Nat) (f : Flags) :
    Mirrors (blockIoFlags v b k f) b ∧ (blockIoFlags v b k f).N = v.msb ∧
      ((blockIoFlags v b k f).H = true ↔ 255 < k) ∧ ((blockIoFlags v b k f).C = true ↔ 255 < k) ∧
      ((blockIoFlags v b k f).PV = true ↔ EvenParity (byte (k % 8) ^^^ b)) :=
  ⟨szxy_mirrors b f, v.msb_eq_getLsbD_last.symm, decide_eq_true_iff, decide_eq_true_iff, parity_iff _⟩

/-! ### The next state of an element -/

/-- LDI and LDD (R251, R252): the byte moved, then the three pairs and the flags. -/
theorem opBlockLd_eq_set16 (dir : BlockDir) (s : State) :
    let v := s.peek (s.get16 .HL)
    let moved := (s.memRead (s.get16 .HL)).2.memWrite (s.get16 .DE) v
    let bc := s.get16 .BC - 1
    opBlockLd dir s =
      { ((moved.set16 .HL (s.get16 .HL + dirWord dir)).set16 .DE (s.get16 .DE + dirWord dir)).set16 .BC bc with
        F := { s.F with F5 := (v + s.A).getLsbD 1, H := false, F3 := (v + s.A).getLsbD 3, PV := bc != 0, N := false } } := by
  intro v moved bc
  rw [opBlockLd_eq, blockLdFlags, decide_ne_eq_bne]
  simp only [moved, State.memRead, State.memWrite, State.log, State.set16, List.append_assoc, List.singleton_append, v, bc]

/-- CPI and CPD (R256, R257): the byte read, then the two pairs and the flags. -/
theorem opBlockCp_eq_set16 (dir : BlockDir) (s : State) :
    opBlockCp dir s =
      { ((s.memRead (s.get16 .HL)).2.set16 .HL (s.get16 .HL + dirWord dir)).set16 .BC (s.get16 .BC - 1) with
        F := blockCpFlags s.A (s.peek (s.get16 .HL)) (s.get16 .BC - 1) s.F } := opBlockCp_eq dir s

/-- INI and IND (R261, R262): the port is BC as it stands before B is decremented. -/
theorem opBlockIn_eq_set16 (dir : BlockDir) (s : State) :
    let v := (s.ioRead (s.get16 .BC)).1
    let got := { (s.ioRead (s.get16 .BC)).2.memWrite (s.get16 .HL) v with B := s.B - 1 }
    opBlockIn dir s =
      { got.set16 .HL (s.get16 .HL + dirWord dir) with
        F := blockIoFlags v (s.B - 1) (v.toNat + (s.C + dirByte dir).toNat) s.F } := rfl

/-- OUTI and OUTD (R265, R266): the port has B after its decrement, and the sum L after the pointer's update. -/
theorem opBlockOut_eq_set16 (dir : BlockDir) (s : State) :
    let v := s.peek (s.get16 .HL)
    let sent := ({ (s.memRead (s.get16 .HL)).2 with B := s.B - 1 } : State).ioWrite (joinBytes (s.B - 1) s.C) v
    opBlockOut dir s =
      { sent.set16 .HL (s.get16 .HL + dirWord dir) with
        F := blockIoFlags v (s.B - 1) (v.toNat + (s.L + dirByte dir).toNat) s.F } := by
  intro v sent
  rw [← loByte_joinBytes_add_dirWord s.H]
  rfl

/-! ### The repeating forms (R250): from the next state `t` of their element, PC is rewound -/

theorem ite_decide_eq_rewound (again : Prop) [Decidable again] (s : State) :
    (if decide again then s.PC - 2 else s.PC) = rewound again s := by
  simp only [decide_eq_true_eq, rewound]

/-- CPIR and CPDR repeat while BC is not 0 and nothing matched (R258, R259). -/
theorem opBlockCpRepeat_eq_rewound (dir : BlockDir) (s : State) :
    opBlockCpRepeat dir s =
      { opBlockCp dir s with PC := rewound (s.get16 .BC - 1 ≠ 0 ∧ s.A ≠ s.peek (s.get16 .HL)) s } := by
  simp only [opBlockCpRepeat_eq, ← decide_not, ← Bool.decide_and, ite_decide_eq_rewound, sub_eq_zero, ne_eq]

section

variable {dir : BlockDir} {s t : State}

theorem opBlockLdRepeat_of_element (h : opBlockLd dir s = t) :
    opBlockLdRepeat dir s = { t with PC := rewound (s.get16 .BC - 1 ≠ 0) s } := by
  rw [opBlockLdRepeat_eq, ite_decide_eq_rewound, h]

theorem opBlockCpRepeat_of_again (h : opBlockCp dir s = t) (hagain : s.get16 .BC - 1 ≠ 0 ∧ s.A ≠ s.peek (s.get16 .HL)) :
    opBlockCpRepeat dir s = { t with PC := s.PC - 2 } := by
  rw [opBlockCpRepeat_eq_rewound, rewound, if_pos hagain, h]

/-- On its last element a repeating compare does what its base form does. -/
theorem opBlockCpRepeat_of_not_again (h : opBlockCp dir s = t)
    (hlast : ¬ (s.get16 .BC - 1 ≠ 0 ∧ s.A ≠ s.peek (s.get16 .HL))) : opBlockCpRepeat dir s = t := by
  rw [opBlockCpRepeat_eq_rewound, rewound, if_neg hlast, ← h]
  rfl

theorem opBlockInRepeat_of_element (h : opBlockIn dir s = t) :
    opBlockInRepeat dir s = { t with PC := rewound (s.B - 1 ≠ 0) s } := by
  rw [opBlockInRepeat_eq, ite_decide_eq_rewound, h]

theorem opBlockOutRepeat_of_element (h : opBlockOut dir s = t) :
    opBlockOutRepeat dir s = { t with PC := rewound (s.B - 1 ≠ 0) s } := by
  rw [opBlockOutRepeat_eq, ite_decide_eq_rewound, h]

end

/-- What a shape's shared operation leaves is what `exec` answers. -/
theorem exec_of_execForm (f : Form) {s t : State} (h : execForm f s = t) : exec f.instr s = .next t := by
  rw [exec_form, h]

end Sys2Proof.Machine

namespace Sys2Proof.Proofs

open Sys2Proof.Machine Sys2Proof.Claims

/-- Settles O40: the element of each direction, and the repeating forms from it. -/
theorem blockTransferElement : Obligations.BlockTransferElement := by
  unfold Obligations.BlockTransferElement
  intro s v moved bc f up down
  have hup : opBlockLd .up s = up := opBlockLd_eq_set16 .up s
  have hdown : opBlockLd .down s = down := by
    rw [opBlockLd_eq_set16, add_dirWord_down, add_dirWord_down]
  refine ⟨rfl, rfl, rfl, rfl, ?_, ?_, ?_, ?_⟩
  · exact exec_of_execForm .ldi hup
  · exact exec_of_execForm .ldd hdown
  · exact exec_of_execForm .ldir (opBlockLdRepeat_of_element hup)
  · exact exec_of_execForm .lddr (opBlockLdRepeat_of_element hdown)

/-- Settles O41: the flags are `blockCpFlags`, the same in both directions; a repeating form rewinds PC or is its base form. -/
theorem blockCompareElement : Obligations.BlockCompareElement := by
  unfold Obligations.BlockCompareElement
  intro s v seen bc again
  have hup := opBlockCp_eq_set16 .up s
  have hdown := opBlockCp_eq_set16 .down s
  rw [add_dirWord_down] at hdown
  refine ⟨rfl, rfl, rfl, rfl, blockCpFlags s.A v bc s.F, blockCpFlags_S_iff s.A v bc s.F, blockCpFlags_Z_iff s.A v bc s.F,
    blockCpFlags_H_iff s.A v bc s.F, decide_ne_eq_bne bc, rfl, rfl, rfl, rfl, ?_, ?_, ?_, ?_, ?_, ?_⟩
  · exact exec_of_execForm .cpi hup
  · exact exec_of_execForm .cpd hdown
  · exact fun h => exec_of_execForm .cpir (opBlockCpRepeat_of_again hup h)
  · exact fun h => exec_of_execForm .cpdr (opBlockCpRepeat_of_again hdown h)
  · exact fun h => exec_of_execForm .cpir (opBlockCpRepeat_of_not_again hup h)
  · exact fun h => exec_of_execForm .cpdr (opBlockCpRepeat_of_not_again hdown h)

/-- Settles O42: the element of each direction with the sum `k` of that direction, and the repeating forms from it. -/
theorem blockInputElement : Obligations.BlockInputElement := by
  unfold Obligations.BlockInputElement
  intro s v got flags
  have hup := opBlockIn_eq_set16 .up s
  have hdown := opBlockIn_eq_set16 .down s
  rw [add_dirWord_down, add_dirByte_down] at hdown
  refine ⟨rfl, rfl, rfl, rfl, ?_, ?_⟩
  · exact ⟨_, blockIoFlags_spec v (s.B - 1) _ s.F, exec_of_execForm .ini hup,
      exec_of_execForm .inir (opBlockInRepeat_of_element hup)⟩
  · exact ⟨_, blockIoFlags_spec v (s.B - 1) _ s.F, exec_of_execForm .ind hdown,
      exec_of_execForm .indr (opBlockInRepeat_of_element hdown)⟩

/-- Settles O43: as for the input forms, with the sum taken from L after the pointer's update. -/
theorem blockOutputElement : Obligations.BlockOutputElement := by
  unfold Obligations.BlockOutputElement
  intro s v sent flags
  have hup := opBlockOut_eq_set16 .up s
  have hdown := opBlockOut_eq_set16 .down s
  rw [add_dirWord_down, add_dirByte_down] at hdown
  refine ⟨rfl, rfl, rfl, rfl, ?_, ?_⟩
  · exact ⟨_, blockIoFlags_spec v (s.B - 1) _ s.F, exec_of_execForm .outi hup,
      exec_of_execForm .otir (opBlockOutRepeat_of_element hup)⟩
  · exact ⟨_, blockIoFlags_spec v (s.B - 1) _ s.F, exec_of_execForm .outd hdown,
      exec_of_execForm .otdr (opBlockOutRepeat_of_element hdown)⟩

end Sys2Proof.Proofs
end

section
/-! Loads, exchanges and the stack (45_load_exchange.md R293 to R323): index halves, words in memory and in registers, the stack on
`PLAIN_RAM`, then the instructions. -/

namespace Sys2Proof.Machine

open Sys2Proof.Claims

/-! ### Halves of a word (R25) -/

theorem extractLsb'_eq_hiByte (v : Word) : v.extractLsb' 8 8 = hiByte v :=
  congrArg (BitVec.ofNat 8) (Nat.shiftRight_eq_div_pow v.toNat 8)

theorem extractLsb'_eq_loByte (v : Word) : v.extractLsb' 0 8 = loByte v := rfl

theorem State.getHalf_eq_extractLsb' (s : State) (x : Idx) (h : Side) :
    s.getHalf x h = (s.get16 x.reg).extractLsb' (if h = .H then 8 else 0) 8 := by
  cases h with
  | H => exact (extractLsb'_eq_hiByte _).symm
  | L => exact (extractLsb'_eq_loByte _).symm

/-- "A half written by changing only its 8 bits of X" (R293). -/
theorem State.setHalf_eq_set16 (s : State) (x : Idx) (h : Side) (v : Byte) :
    s.setHalf x h v =
      s.set16 x.reg (if h = .H then joinBytes v (s.getHalf x .L) else joinBytes (s.getHalf x .H) v) := by
  cases h <;> rfl

/-! ### 16-bit registers -/

/-- A 16-bit register read after it was written; all eight flags are in AF (R23, R26). -/
@[simp] theorem State.get16_set16_self (s : State) (r : Reg16) (v : Word) : (s.set16 r v).get16 r = v := by
  cases r with
  | BC => exact joinBytes_hi_lo v
  | DE => exact joinBytes_hi_lo v
  | HL => exact joinBytes_hi_lo v
  | AF =>
    show joinBytes (hiByte v) (Flags.unpack (loByte v)).pack = v
    rw [Flags.pack_unpack, joinBytes_hi_lo]
  | SP => rfl
  | IX => rfl
  | IY => rfl

/-- No operand of EX (SP),rr is SP (R314). -/
@[simp] theorem State.set16_Xx_SP (s : State) (xx : Xx) (v : Word) : (s.set16 xx.reg v).SP = s.SP := by cases xx <;> rfl

/-- No operand of PUSH and POP is SP (R323). -/
@[simp] theorem State.set16_Qq_SP (s : State) (q : Qq) (v : Word) : (s.set16 q.reg v).SP = s.SP := by cases q <;> rfl

/-! ### Words in memory (20_memory.md R66) -/

theorem State.memReadWord_eq_afterReads (s : State) (a : Word) :
    s.memReadWord a = (wordAt s a, afterReads s [a, a + 1]) := s.memReadWord_eq a

theorem wordAt_plainRam {s : State} (h : s.memDevice = .plainRam) (a : Word) :
    wordAt s a = joinBytes (s.stored (a + 1)) (s.stored a) := by
  rw [wordAt, State.memAnswer_plainRam h, State.memAnswer_plainRam h]

theorem State.stored_memWrite_plainRam {s : State} (h : s.memDevice = .plainRam) (a b : Word) (v : Byte) :
    (s.memWrite a v).stored b = if b = a then v else s.stored b := by
  simp only [State.stored_memWrite, h, MemDevice.keeps_plainRam, and_true]

theorem add_one_ne_self (a : Word) : a + 1 ≠ a := add_ne_left.mpr (by decide)

/-! ### The stack (R320, R321) -/

theorem sub_one_ne_self (a : Word) : a - 1 ≠ a := sub_eq_self.not.mpr (by decide)

theorem sub_one_sub_one (a : Word) : a - 1 - 1 = a - 2 := sub_sub a 1 1

theorem State.push16_eq_memWrite (s : State) (v : Word) :
    s.push16 v = { (s.memWrite (s.SP - 1) (hiByte v)).memWrite (s.SP - 2) (loByte v) with SP := s.SP - 2 } := by
  rw [← sub_one_sub_one]
  rfl

theorem State.pop16_eq_afterReads (s : State) :
    s.pop16 = (wordAt s s.SP, { afterReads s [s.SP, s.SP + 1] with SP := s.SP + 2 }) := by
  rw [State.pop16_eq, add_assoc]
  rfl

/-- The two bytes a push leaves on `PLAIN_RAM`, wherever SP is. -/
theorem State.stored_push16_bytes {s : State} (h : s.memDevice = .plainRam) (v : Word) :
    (s.push16 v).stored (s.SP - 1) = hiByte v ∧ (s.push16 v).stored (s.SP - 2) = loByte v := by
  rw [State.stored_push16 h, State.stored_push16 h]
  exact ⟨(if_neg (sub_one_ne_self _).symm).trans (if_pos rfl), if_pos (sub_one_sub_one _).symm⟩

/-! ### Loads -/

theorem opLdFromMem_eq_afterReads (r : Reg16) (nn : Word) (s : State) :
    opLdFromMem r nn s = (afterReads s [nn, nn + 1]).set16 r (wordAt s nn) := by
  rw [opLdFromMem, State.memReadWord_eq_afterReads]

/-! ### Exchanges -/

theorem opExDeHl_eq_set16 (s : State) : opExDeHl s = (s.set16 .DE (s.get16 .HL)).set16 .HL (s.get16 .DE) := by
  simp only [opExDeHl, State.set16, State.get16, hiByte_joinBytes, loByte_joinBytes]

theorem opExDeHl_opExDeHl (s : State) : opExDeHl (opExDeHl s) = s := rfl

theorem opExAf_opExAf (s : State) : opExAf (opExAf s) = s := by
  simp only [opExAf, Flags.unpack_pack, Flags.pack_unpack]

theorem opExx_opExx (s : State) : opExx (opExx s) = s := rfl

theorem opExSp_eq_afterReads (r : Reg16) (s : State) :
    opExSp r s =
      (((afterReads s [s.SP, s.SP + 1]).memWrite (s.SP + 1) (hiByte (s.get16 r))).memWrite s.SP (loByte (s.get16 r))).set16 r
        (wordAt s s.SP) := by
  rw [opExSp, State.memReadWord_eq_afterReads]
  rfl

/-- The contents after EX (SP),rr on `PLAIN_RAM`: the register's word stands at SP (R314). -/
theorem stored_opExSp {s : State} (h : s.memDevice = .plainRam) (r : Reg16) (b : Word) :
    (opExSp r s).stored b =
      if b = s.SP then loByte (s.get16 r) else if b = s.SP + 1 then hiByte (s.get16 r) else s.stored b := by
  have hread : (afterReads s [s.SP, s.SP + 1]).memDevice = .plainRam := h
  have hwritten (v : Byte) : ((afterReads s [s.SP, s.SP + 1]).memWrite (s.SP + 1) v).memDevice = .plainRam := h
  rw [opExSp_eq_afterReads, State.stored_set16, State.stored_memWrite_plainRam (hwritten _),
    State.stored_memWrite_plainRam hread]
  rfl

/-- A second byte that both index maps mark as no instruction (30_encoding.md R103). -/
theorem undefined_leadByte (x : Idx) {op : Byte} (hcb : op ≠ 0xCB) (hdd : gridAt ddGrid op = .bad)
    (hfd : gridAt fdGrid op = .bad) : Undefined (leadByte x) op := by
  intro rest
  cases x with
  | IX =>
    refine ⟨.noIndexForm 0xDD op, ?_⟩
    show decodeIndexed 0xDD ddGrid ddcbGrid (op :: rest) = _
    rw [decodeIndexed, if_neg hcb, hdd]
    rfl
  | IY =>
    refine ⟨.noIndexForm 0xFD op, ?_⟩
    show decodeIndexed 0xFD fdGrid fdcbGrid (op :: rest) = _
    rw [decodeIndexed, if_neg hcb, hfd]
    rfl

/-! ### The bytes of the instructions -/

theorem encode_ldRegHalf (r : Reg5) (x : Idx) (h : Side) :
    encode (Form.ldRegHalf r x h).instr = [leadByte x, byte (0x40 + 8 * regCode r.reg + sideCode h)] := by
  cases r <;> cases x <;> cases h <;> rfl

theorem encode_ldHalfReg (x : Idx) (h : Side) (r : Reg5) :
    encode (Form.ldHalfReg x h r).instr = [leadByte x, byte (0x40 + 8 * sideCode h + regCode r.reg)] := by
  cases x <;> cases h <;> cases r <;> rfl

theorem encode_ldHalfHalf (x : Idx) (h h' : Side) :
    encode (Form.ldHalfHalf x h h').instr = [leadByte x, byte (0x40 + 8 * sideCode h + sideCode h')] := by
  cases x <;> cases h <;> cases h' <;> rfl

theorem encode_ldHalfImm (x : Idx) (h : Side) (n : Byte) :
    encode (Form.ldHalfImm x h n).instr = [leadByte x, byte (0x06 + 8 * sideCode h), n] := by
  cases x <;> cases h <;> rfl

theorem encode_ldRrImm (rr : Rr) (nn : Word) :
    encode (Form.ldRrImm rr nn).instr = (rrCode rr).1 ++ [byte (0x01 + 16 * (rrCode rr).2), loByte nn, hiByte nn] := by
  cases rr <;> rfl

theorem encode_ldIdxMem (x : Idx) (nn : Word) :
    encode (Form.ldIdxMem x nn).instr = [leadByte x, 0x2A, loByte nn, hiByte nn] := by cases x <;> rfl

theorem encode_stIdxMem (x : Idx) (nn : Word) :
    encode (Form.stIdxMem x nn).instr = [leadByte x, 0x22, loByte nn, hiByte nn] := by cases x <;> rfl

theorem encode_ldRpMem (p : Rp) (nn : Word) :
    encode (Form.ldRpMem p nn).instr = [0xED, byte (0x4B + 16 * rpCode p), loByte nn, hiByte nn] := by cases p <;> rfl

theorem encode_stRpMem (p : Rp) (nn : Word) :
    encode (Form.stRpMem p nn).instr = [0xED, byte (0x43 + 16 * rpCode p), loByte nn, hiByte nn] := by cases p <;> rfl

theorem encode_ldSP (xx : Xx) : encode (Form.ldSP xx).instr = leadOf xx ++ [0xF9] := by cases xx <;> rfl

theorem encode_exSP (xx : Xx) : encode (Form.exSP xx).instr = leadOf xx ++ [0xE3] := by cases xx <;> rfl

theorem encode_push (q : Qq) : encode (Form.push q).instr = (qqCode q).1 ++ [byte (0xC5 + 16 * (qqCode q).2)] := by
  cases q <;> rfl

theorem encode_pop (q : Qq) : encode (Form.pop q).instr = (qqCode q).1 ++ [byte (0xC1 + 16 * (qqCode q).2)] := by
  cases q <;> rfl

end Sys2Proof.Machine

namespace Sys2Proof.Proofs

open Sys2Proof.Machine Sys2Proof.Claims

/-- Settles O46: the bits named are `getHalf`, and writing a half is `setHalf_eq_set16`. -/
theorem indexHalfLoadResult : Obligations.IndexHalfLoadResult := by
  unfold Obligations.IndexHalfLoadResult
  intro r x h h' n s half put
  have hhalf (g : Side) : s.getHalf x g = half g := s.getHalf_eq_extractLsb' x g
  have hput (v : Byte) : s.setHalf x h v = put v := by
    rw [State.setHalf_eq_set16, hhalf, hhalf]
  refine ⟨encode_ldRegHalf r x h, encode_ldHalfReg x h r, encode_ldHalfHalf x h h', encode_ldHalfImm x h n, ?_, ?_, ?_, ?_⟩
  · rw [← hhalf]
    exact exec_form (.ldRegHalf r x h) s
  · rw [← hput]
    exact exec_form (.ldHalfReg x h r) s
  · rw [← hhalf, ← hput]
    exact exec_form (.ldHalfHalf x h h') s
  · rw [← hput]
    exact exec_form (.ldHalfImm x h n) s

/-- Settles O47: the flags are those of the byte left in A, with IFF2 for PV; `byteFlags` keeps C. -/
theorem specialRegisterLoadResult : Obligations.SpecialRegisterLoadResult := by
  unfold Obligations.SpecialRegisterLoadResult
  intro s
  refine ⟨rfl, rfl, rfl, rfl, ?_, ?_, exec_form .ldIA s, exec_form .ldRA s⟩
  · exact ⟨byteFlags s.I s.IFF2 s.F, exec_form .ldAI s, byteFlags_mirrors _ _ _, rfl, rfl, rfl, rfl⟩
  · exact ⟨byteFlags s.R s.IFF2 s.F, exec_form .ldAR s, byteFlags_mirrors _ _ _, rfl, rfl, rfl, rfl⟩

/-- Settles O48: a load is the two reads of `opLdFromMem_eq_afterReads`, a store the two writes of `opStToMem`. -/
theorem wordLoadAndStoreResult : Obligations.WordLoadAndStoreResult := by
  unfold Obligations.WordLoadAndStoreResult
  intro rr p x xx nn s word read stored
  have hload (r : Reg16) : opLdFromMem r nn s = read.set16 r word := opLdFromMem_eq_afterReads r nn s
  have hstore (r : Reg16) : opStToMem r nn s = stored (s.get16 r) := rfl
  refine ⟨encode_ldRrImm rr nn, rfl, rfl, encode_ldIdxMem x nn, encode_stIdxMem x nn, encode_ldRpMem p nn, encode_stRpMem p nn,
    encode_ldSP xx, exec_form (.ldRrImm rr nn) s, ?_, ?_, ?_, ?_, ?_, ?_, exec_form (.ldSP xx) s⟩
  · exact exec_of_execForm (.ldHLMem nn) (hload .HL)
  · exact exec_of_execForm (.ldRpMem p nn) (hload p.reg)
  · exact exec_of_execForm (.ldIdxMem x nn) (hload x.reg)
  · exact exec_of_execForm (.stHLMem nn) (hstore .HL)
  · exact exec_of_execForm (.stRpMem p nn) (hstore p.reg)
  · exact exec_of_execForm (.stIdxMem x nn) (hstore x.reg)

/-- Settles O49: each register exchange is its own inverse, and EX (SP),rr is two reads, two writes and the register. -/
theorem exchangeResult : Obligations.ExchangeResult := by
  unfold Obligations.ExchangeResult
  intro xx s
  refine ⟨rfl, rfl, rfl, encode_exSP xx, ?_, ?_, exec_form .exAF s, exec_form .exx s, ?_, ?_, ?_⟩
  · exact fun x => ⟨undefined_leadByte x (by decide) rfl rfl, undefined_leadByte x (by decide) rfl rfl⟩
  · exact exec_of_execForm .exDEHL (opExDeHl_eq_set16 s)
  · rintro i (rfl | rfl | rfl)
    · exact ⟨opExDeHl s, exec_form .exDEHL s, exec_of_execForm .exDEHL (opExDeHl_opExDeHl s)⟩
    · exact ⟨opExAf s, exec_form .exAF s, exec_of_execForm .exAF (opExAf_opExAf s)⟩
    · exact ⟨opExx s, exec_form .exx s, exec_of_execForm .exx (opExx_opExx s)⟩
  · exact exec_of_execForm (.exSP xx) (opExSp_eq_afterReads xx.reg s)
  · intro h
    refine ⟨opExSp xx.reg s, exec_form (.exSP xx) s, ?_, ?_, ?_, ?_⟩
    · rw [opExSp_eq_afterReads, State.get16_set16_self, wordAt_plainRam h]
    · rw [stored_opExSp h, if_pos rfl]
    · rw [stored_opExSp h, if_neg (add_one_ne_self s.SP), if_pos rfl]
    · rw [opExSp_eq_afterReads, State.set16_Xx_SP]
      rfl

/-- Settles O50: the closed forms of push and pop, and `State.pop16_push16` for what POP finds after PUSH. -/
theorem pushAndPopResult : Obligations.PushAndPopResult := by
  unfold Obligations.PushAndPopResult
  intro q q' s v
  refine ⟨encode_push q, encode_pop q, s.push16_eq_memWrite v, s.pop16_eq_afterReads, exec_form (.push q) s,
    exec_form (.pop q) s, ?_⟩
  intro h
  obtain ⟨hhi, hlo⟩ := State.stored_push16_bytes h v
  obtain ⟨hword, hsp⟩ := State.pop16_push16 h (s.get16 q.reg)
  refine ⟨hhi, hlo, opPush q.reg s, opPop q'.reg (opPush q.reg s), exec_form (.push q) s, exec_form (.pop q') _, ?_, ?_⟩
  · rw [opPop, State.get16_set16_self, opPush, hword]
  · rw [opPop, State.set16_Qq_SP, opPush, hsp]

end Sys2Proof.Proofs
end

section
/-! Jumps, calls and returns (46_control_flow.md R330 to R343): where PC goes, a call then a return on `PLAIN_RAM`, then the
instructions. -/

namespace Sys2Proof.Machine

open Sys2Proof.Claims

/-! ### Jumps (R331 to R336) -/

/-- The target of a relative jump, counted in the integers as R333 writes it. -/
theorem ofInt_toNat_add {w : Nat} (a : BitVec w) (e : Int) : BitVec.ofInt w ((a.toNat : Int) + e) = a + BitVec.ofInt w e := by
  rw [BitVec.ofInt_add, BitVec.ofInt_natCast, BitVec.ofNat_toNat, BitVec.setWidth_eq]

theorem opJumpRelative_eq_opJump (e : Int) (s : State) :
    opJumpRelative e s = opJump (BitVec.ofInt 16 ((s.PC.toNat : Int) + e)) s := by
  rw [ofInt_toNat_add]
  rfl

/-- Taken or not, a conditional jump changes PC only (R332). -/
theorem opIf_opJump (c : Cond) (target : Word) (s : State) :
    opIf c (opJump target) s = { s with PC := if condition c s.F then target else s.PC } := by
  by_cases h : condition c s.F = true
  · rw [opIf, if_pos h, if_pos h]
    rfl
  · rw [opIf, if_neg h, if_neg h]

theorem opIf_opJumpRelative (c : Cond) (e : Int) (s : State) :
    opIf c (opJumpRelative e) s =
      { s with PC := if condition c s.F then BitVec.ofInt 16 ((s.PC.toNat : Int) + e) else s.PC } := by
  rw [opIf, opJumpRelative_eq_opJump]
  exact opIf_opJump c _ s

/-- DJNZ falls through exactly where B was 1 (R336). -/
theorem opDjnz_eq_ofInt (e : Int) (s : State) :
    opDjnz e s =
      { s with B := s.B - 1, PC := if s.B = 1 then s.PC else BitVec.ofInt 16 ((s.PC.toNat : Int) + e) } := by
  simp only [opDjnz_eq, sub_eq_zero, ofInt_toNat_add]

/-! ### Calls and returns (R337 to R343) -/

@[simp] theorem opCall_IFF1 (target : Word) (s : State) : (opCall target s).IFF1 = s.IFF1 := by rw [opCall_eq]
@[simp] theorem opCall_IFF2 (target : Word) (s : State) : (opCall target s).IFF2 = s.IFF2 := by rw [opCall_eq]
@[simp] theorem returnToCaller_IFF1 (s : State) : (returnToCaller s).IFF1 = s.IFF1 := by rw [returnToCaller_eq]
@[simp] theorem returnToCaller_IFF2 (s : State) : (returnToCaller s).IFF2 = s.IFF2 := by rw [returnToCaller_eq]

/-- What a call pushed is what a return pops, on `PLAIN_RAM` (R77). -/
theorem returnToCaller_opCall {s : State} (h : s.memDevice = .plainRam) (target : Word) :
    (returnToCaller (opCall target s)).PC = s.PC ∧ (returnToCaller (opCall target s)).SP = s.SP :=
  State.pop16_push16 h s.PC

theorem exec_rst (y : Fin 8) (s : State) : exec (Form.rst y).instr s = .next (opCall (BitVec.ofNat 16 (8 * y.val)) s) := by
  rw [Nat.mul_comm]
  exact exec_form (.rst y) s

/-- A second byte that the ED map marks as no instruction (30_encoding.md R99). -/
theorem undefined_ED {op : Byte} (h : gridAt edGrid op = .bad) : Undefined 0xED op := by
  intro rest
  refine ⟨.edUndefined op, ?_⟩
  show decodeOperands (gridAt edGrid op) (.edUndefined op) rest = _
  rw [h]
  rfl

/-! ### The bytes of the instructions -/

theorem encode_jpCc (c : Cond) (nn : Word) :
    encode (Form.jpCc c nn).instr = [byte (0xC2 + 8 * condCode c), loByte nn, hiByte nn] := by cases c <;> rfl

theorem encode_jrCc (c : JrCond) (e : Int) :
    encode (Form.jrCc c e).instr = [byte (0x20 + 8 * condCode c.cond), displacementByte e] := by cases c <;> rfl

theorem encode_jpReg (xx : Xx) : encode (Form.jpReg xx).instr = leadOf xx ++ [0xE9] := by cases xx <;> rfl

theorem encode_callCc (c : Cond) (nn : Word) :
    encode (Form.callCc c nn).instr = [byte (0xC4 + 8 * condCode c), loByte nn, hiByte nn] := by cases c <;> rfl

theorem encode_retCc (c : Cond) : encode (Form.retCc c).instr = [byte (0xC0 + 8 * condCode c)] := by cases c <;> rfl

theorem encode_rst (y : Fin 8) : encode (Form.rst y).instr = [byte (0xC7 + 8 * y.val)] := by fin_cases y <;> rfl

end Sys2Proof.Machine

namespace Sys2Proof.Proofs

open Sys2Proof.Machine Sys2Proof.Claims

/-- Settles O52: four conditions are their flag and four its negation; the codes are in the bytes of JP cc and JR cc. -/
theorem conditionsTestTheirFlag : Obligations.ConditionsTestTheirFlag := by
  unfold Obligations.ConditionsTestTheirFlag
  intro f
  have clear (flag : Bool) : (!flag) = true ↔ flag = false := iff_of_eq (Bool.not_eq_true' flag)
  refine ⟨clear f.Z, Iff.rfl, clear f.C, Iff.rfl, clear f.PV, Iff.rfl, clear f.S, Iff.rfl, ?_, ?_⟩
  · intro c nn
    rw [encode_jpCc, List.head?_cons]
  · intro c e
    rw [encode_jrCc, List.head?_cons, Nat.mul_add, Nat.add_comm]

/-- Settles O51: a jump is `opJump` to its target, and a condition or DJNZ's counter chooses between that and PCn. -/
theorem jumpResult : Obligations.JumpResult := by
  unfold Obligations.JumpResult
  intro c jc xx nn e s
  refine ⟨rfl, encode_jpReg xx, encode_jpCc c nn, rfl, rfl, encode_jrCc jc e, exec_form (.jp nn) s, ?_, ?_, ?_,
    exec_form (.jpReg xx) s, ?_⟩
  · exact exec_of_execForm (.jpCc c nn) (opIf_opJump c nn s)
  · exact exec_of_execForm (.jr e) (opJumpRelative_eq_opJump e s)
  · exact exec_of_execForm (.jrCc jc e) (opIf_opJumpRelative jc.cond e s)
  · exact exec_of_execForm (.djnz e) (opDjnz_eq_ofInt e s)

/-- Settles O53: each clause is the shape's operation, and CALL or RST then RET is `returnToCaller_opCall`. -/
theorem callAndReturnResult : Obligations.CallAndReturnResult := by
  unfold Obligations.CallAndReturnResult
  intro c y nn s
  refine ⟨rfl, rfl, rfl, rfl, ?_, encode_callCc c nn, encode_retCc c, encode_rst y, exec_form (.call nn) s,
    exec_form (.callCc c nn) s, exec_rst y s, exec_form .ret s, exec_form (.retCc c) s, exec_form .reti s, exec_form .retn s, ?_⟩
  · intro b hb
    fin_cases hb <;> exact undefined_ED rfl
  · intro i hram hi
    obtain ⟨target, hcall⟩ : ∃ target, exec i s = .next (opCall target s) := by
      rcases hi with rfl | rfl
      · exact ⟨_, exec_form (.call nn) s⟩
      · exact ⟨_, exec_rst y s⟩
    obtain ⟨hpc, hsp⟩ := returnToCaller_opCall hram target
    refine ⟨opCall target s, returnToCaller (opCall target s), hcall, exec_form .ret _, hpc, hsp, ?_, ?_⟩
    · rw [returnToCaller_IFF1, opCall_IFF1]
    · rw [returnToCaller_IFF2, opCall_IFF2]

end Sys2Proof.Proofs
end

section
/-! The decoder gives back every well-formed instruction, and accepts nothing else (30_encoding.md R94 to R105). -/

namespace Sys2Proof

open Machine Laws.RoundTrip

/-! ### Decode of encode, shape by shape -/

/-- Where no operand needs more than its own byte the two compute to each other; an immediate word is joined again by `ok_word`, a
signed operand is read back by `ok_signed`. -/
theorem Form.statement (f : Form) : Statement f.instr := by
  cases f
  case alu op src =>
    rcases src with r | ⟨x, h⟩ | _ | ⟨x, d⟩ | n
    · cases op <;> cases r <;> exact fun _ _ => rfl
    · cases op <;> cases x <;> cases h <;> exact fun _ _ => rfl
    · cases op <;> exact fun _ _ => rfl
    · cases op <;> cases x <;> exact ok_signed _ d
    · cases op <;> exact fun _ _ => rfl
  case incM m | decM m =>
    rcases m with r | ⟨x, h⟩ | _ | ⟨x, d⟩
    · cases r <;> exact fun _ _ => rfl
    · cases x <;> cases h <;> exact fun _ _ => rfl
    · exact fun _ _ => rfl
    · cases x <;> exact ok_signed _ d
  case rot op m =>
    rcases m with r | _ | ⟨x, d⟩
    · cases op <;> cases r <;> exact fun _ _ => rfl
    · cases op <;> exact fun _ _ => rfl
    · cases op <;> cases x <;> exact ok_signed _ d
  case bit b m | set b m | res b m =>
    rcases m with r | _ | ⟨x, d⟩
    · fin_cases b <;> cases r <;> exact fun _ _ => rfl
    · fin_cases b <;> exact fun _ _ => rfl
    · fin_cases b <;> cases x <;> exact ok_signed _ d
  case ldRegIdx r x d | ldIdxReg x d r => cases r <;> cases x <;> exact ok_signed _ d
  case ldIdxImm x d n =>
    cases x
    · exact ld_mIXd_n d n
    · exact ld_mIYd_n d n
  case jr e | djnz e => exact ok_signed _ e
  case jrCc c e => cases c <;> exact ok_signed _ e
  case ldAMem nn | ldMemA nn | ldHLMem nn | stHLMem nn | jp nn | call nn => exact fun _ => ok_word _ nn
  case ldRrImm rr nn => cases rr <;> exact fun _ => ok_word _ nn
  case ldRpMem p nn | stRpMem p nn => cases p <;> exact fun _ => ok_word _ nn
  case ldIdxMem x nn | stIdxMem x nn => cases x <;> exact fun _ => ok_word _ nn
  case jpCc c nn | callCc c nn => cases c <;> exact fun _ => ok_word _ nn
  case add16 dst src => cases dst <;> cases src <;> exact fun _ _ => rfl
  case adc16 p | sbc16 p | ldAPair p | ldPairA p => cases p <;> exact fun _ _ => rfl
  case inc16 rr | dec16 rr => cases rr <;> exact fun _ _ => rfl
  case ldRegReg dst src => cases dst <;> cases src <;> exact fun _ _ => rfl
  case ldRegImm r _ | ldRegHL r | ldHLReg r | inReg r | outReg r => cases r <;> exact fun _ _ => rfl
  case ldRegHalf r x h | ldHalfReg x h r => cases r <;> cases x <;> cases h <;> exact fun _ _ => rfl
  case ldHalfHalf x dst src => cases x <;> cases dst <;> cases src <;> exact fun _ _ => rfl
  case ldHalfImm x h _ => cases x <;> cases h <;> exact fun _ _ => rfl
  case ldSP xx | exSP xx | jpReg xx => cases xx <;> exact fun _ _ => rfl
  case push q | pop q => cases q <;> exact fun _ _ => rfl
  case retCc c => cases c <;> exact fun _ _ => rfl
  case rst y => fin_cases y <;> exact fun _ _ => rfl
  case im m => cases m <;> exact fun _ _ => rfl
  all_goals exact fun _ _ => rfl

theorem decode_encode {i : Instr} (h : i.wellFormed = true) (rest : List Byte) : decode (encode i ++ rest) = .ok (i, rest) :=
  Instr.forall_of_form Statement Form.statement i h rest

/-! ### What the decoder accepts is well-formed (R104) -/

/-- The signed operand of a cell's instruction, where the byte for it reads `d`. -/
def Entry.signed (e : Entry) (d : Int) : Option Int :=
  match e with
  | .opS _ => some d
  | .opSN _ => some d
  | .op _ | .opN _ | .opNN _ | .lead | .bad => none

/-- The instructions of an opcode map have a signed operand exactly where their cell has a byte for it. -/
def GridSigned (grid : List (List Entry)) : Prop :=
  ∀ (n : Byte) (d : Int) (nn : Word) (op : Byte),
    ((gridAt grid op).select n d nn).bind (·.1.signedOperand) = (gridAt grid op).signed d

theorem baseGrid_signed : GridSigned baseGrid := fun _ _ _ => eq_of_byteRows_eq rfl
theorem cbGrid_signed : GridSigned cbGrid := fun _ _ _ => eq_of_byteRows_eq rfl
theorem edGrid_signed : GridSigned edGrid := fun _ _ _ => eq_of_byteRows_eq rfl
theorem ddGrid_signed : GridSigned ddGrid := fun _ _ _ => eq_of_byteRows_eq rfl
theorem fdGrid_signed : GridSigned fdGrid := fun _ _ _ => eq_of_byteRows_eq rfl
theorem ddcbGrid_signed : GridSigned ddcbGrid := fun _ _ _ => eq_of_byteRows_eq rfl
theorem fdcbGrid_signed : GridSigned fdcbGrid := fun _ _ _ => eq_of_byteRows_eq rfl

/-- The instruction an accepted cell gives is the one it selects with its operands, a signed one read from a byte. -/
theorem select_signedByte_of_decodeOperands {e : Entry} {why : Reject} {bs rest : List Byte} {i : Instr}
    (h : decodeOperands e why bs = .ok (i, rest)) :
    ∃ n b nn os, e.select n (signedByte b) nn = some (i, os) := by
  unfold decodeOperands at h
  split at h
  next => cases h; exact ⟨0, 0, 0, _, rfl⟩
  next =>
    split at h
    next n _ => cases h; exact ⟨n, 0, 0, _, rfl⟩
    next => cases h
  next =>
    split at h
    next d _ => cases h; exact ⟨0, d, 0, _, rfl⟩
    next => cases h
  next =>
    split at h
    next d n _ => cases h; exact ⟨n, d, 0, _, rfl⟩
    next => cases h
  next =>
    split at h
    next lo hi _ => cases h; exact ⟨0, 0, joinBytes hi lo, _, rfl⟩
    next => cases h
  next => cases h
  next => cases h

theorem signedInRange_signedByte (b : Byte) : signedInRange (signedByte b) = true := by
  obtain ⟨hlo, hhi⟩ := signedByte_range b
  simp [signedInRange, hlo, hhi]

theorem GridSigned.wellFormed {grid : List (List Entry)} (hg : GridSigned grid) {op : Byte} {why : Reject} {bs rest : List Byte}
    {i : Instr} (h : decodeOperands (gridAt grid op) why bs = .ok (i, rest)) : i.wellFormed = true := by
  obtain ⟨n, b, nn, os, hsel⟩ := select_signedByte_of_decodeOperands h
  have hcell := hg n (signedByte b) nn op
  rw [hsel, Option.bind_some] at hcell
  unfold Instr.wellFormed
  rw [hcell]
  cases gridAt grid op with
  | opS _ => exact signedInRange_signedByte b
  | opSN _ => exact signedInRange_signedByte b
  | op _ => rfl
  | opN _ => rfl
  | opNN _ => rfl
  | lead => rfl
  | bad => rfl

theorem wellFormed_of_decodeSecond {grid : List (List Entry)} (hg : GridSigned grid) {bs rest : List Byte} {i : Instr}
    (h : decodeSecond grid bs = .ok (i, rest)) : i.wellFormed = true := by
  unfold decodeSecond at h
  split at h
  next => cases h
  next => exact hg.wellFormed h

theorem wellFormed_of_decodeIndexed {grid cb : List (List Entry)} (hg : GridSigned grid) (hcb : GridSigned cb) {lead : Byte}
    {bs rest : List Byte} {i : Instr} (h : decodeIndexed lead grid cb bs = .ok (i, rest)) : i.wellFormed = true := by
  unfold decodeIndexed decodeIndexedCb at h
  split at h
  next => cases h
  next op bs =>
    split_ifs at h
    · split at h
      next => exact hcb.wellFormed h
      next => cases h
    · exact hg.wellFormed h

theorem wellFormed_of_decode {bs rest : List Byte} {i : Instr} (h : decode bs = .ok (i, rest)) : i.wellFormed = true := by
  unfold decode at h
  split at h
  next => cases h
  next op bs =>
    split_ifs at h
    · exact wellFormed_of_decodeSecond cbGrid_signed h
    · exact wellFormed_of_decodeSecond edGrid_signed h
    · exact wellFormed_of_decodeIndexed ddGrid_signed ddcbGrid_signed h
    · exact wellFormed_of_decodeIndexed fdGrid_signed fdcbGrid_signed h
    · exact baseGrid_signed.wellFormed h

/-! ### Encodings by their fields -/

/-- "No instruction is longer than 4 bytes" (R90). -/
theorem encode_length (i : Instr) : 1 ≤ (encode i).length ∧ (encode i).length ≤ 4 := by
  have h : (Nat.ble 1 (encode i).length && Nat.ble (encode i).length 4) = true := by cases i <;> rfl
  rwa [Bool.and_eq_true, Nat.ble_eq, Nat.ble_eq] at h

end Sys2Proof

namespace Sys2Proof.Machine

open Claims

/-- The second byte of the CB layers, `xxyyyzzz` (42_rotate_shift.md R205, 43_bit.md R230): `x` and `y` for a shape over `m`. -/
def CbLayout (f : CbPlace → Form) (k : Nat) : Prop :=
  (∀ r, encode (f (.reg r)).instr = [0xCB, byte (k + regCode r)]) ∧
  encode (f .memHL).instr = [0xCB, byte (k + 6)] ∧
  (∀ x d, encode (f (.memIdx x d)).instr = [leadByte x, 0xCB, displacementByte d, byte (k + 6)])

theorem cbLayout_rot (op : RotOp) : CbLayout (.rot op) (8 * rotCode op) :=
  ⟨fun r => by cases op <;> cases r <;> rfl, by cases op <;> rfl, fun x d => by cases op <;> cases x <;> rfl⟩

theorem cbLayout_bit (b : Fin 8) : CbLayout (.bit b) (0x40 + 8 * b.val) :=
  ⟨fun r => by fin_cases b <;> cases r <;> rfl, by fin_cases b <;> rfl, fun x d => by fin_cases b <;> cases x <;> rfl⟩

theorem cbLayout_res (b : Fin 8) : CbLayout (.res b) (0x80 + 8 * b.val) :=
  ⟨fun r => by fin_cases b <;> cases r <;> rfl, by fin_cases b <;> rfl, fun x d => by fin_cases b <;> cases x <;> rfl⟩

theorem cbLayout_set (b : Fin 8) : CbLayout (.set b) (0xC0 + 8 * b.val) :=
  ⟨fun r => by fin_cases b <;> cases r <;> rfl, by fin_cases b <;> rfl, fun x d => by fin_cases b <;> cases x <;> rfl⟩

/-! INC and DEC (40_alu8.md R159, R160), loads (45_load_exchange.md) and ports (47_io.md). -/

theorem encode_incM_reg (r : Reg8) : encode (Form.incM (.reg r)).instr = [byte (0x04 + 8 * regCode r)] := by cases r <;> rfl

theorem encode_decM_reg (r : Reg8) : encode (Form.decM (.reg r)).instr = [byte (0x05 + 8 * regCode r)] := by cases r <;> rfl

theorem encode_incM_memIdx (x : Idx) (d : Int) :
    encode (Form.incM (.memIdx x d)).instr = [leadByte x, 0x34, displacementByte d] := by cases x <;> rfl

theorem encode_decM_memIdx (x : Idx) (d : Int) :
    encode (Form.decM (.memIdx x d)).instr = [leadByte x, 0x35, displacementByte d] := by cases x <;> rfl

theorem encode_incM_half (x : Idx) (h : Side) :
    encode (Form.incM (.half x h)).instr = [leadByte x, byte (0x04 + 8 * sideCode h)] := by cases x <;> cases h <;> rfl

theorem encode_decM_half (x : Idx) (h : Side) :
    encode (Form.decM (.half x h)).instr = [leadByte x, byte (0x05 + 8 * sideCode h)] := by cases x <;> cases h <;> rfl

theorem encode_ldRegReg (r r' : Reg8) :
    encode (Form.ldRegReg r r').instr = [byte (0x40 + 8 * regCode r + regCode r')] := by cases r <;> cases r' <;> rfl

theorem encode_ldRegImm (r : Reg8) (n : Byte) : encode (Form.ldRegImm r n).instr = [byte (0x06 + 8 * regCode r), n] := by
  cases r <;> rfl

theorem encode_ldRegHL (r : Reg8) : encode (Form.ldRegHL r).instr = [byte (0x46 + 8 * regCode r)] := by cases r <;> rfl

theorem encode_ldRegIdx (r : Reg8) (x : Idx) (d : Int) :
    encode (Form.ldRegIdx r x d).instr = [leadByte x, byte (0x46 + 8 * regCode r), displacementByte d] := by
  cases r <;> cases x <;> rfl

theorem encode_ldHLReg (r : Reg8) : encode (Form.ldHLReg r).instr = [byte (0x70 + regCode r)] := by cases r <;> rfl

theorem encode_ldIdxReg (x : Idx) (d : Int) (r : Reg8) :
    encode (Form.ldIdxReg x d r).instr = [leadByte x, byte (0x70 + regCode r), displacementByte d] := by
  cases r <;> cases x <;> rfl

theorem encode_ldIdxImm (x : Idx) (d : Int) (n : Byte) :
    encode (Form.ldIdxImm x d n).instr = [leadByte x, 0x36, displacementByte d, n] := by cases x <;> rfl

theorem encode_inReg (r : Reg8) : encode (Form.inReg r).instr = [0xED, byte (0x40 + 8 * regCode r)] := by cases r <;> rfl

theorem encode_outReg (r : Reg8) : encode (Form.outReg r).instr = [0xED, byte (0x41 + 8 * regCode r)] := by cases r <;> rfl

end Sys2Proof.Machine

namespace Sys2Proof.Proofs

open Machine Claims

/-- Settles O1: `decode_encode`, over the shapes. -/
theorem decodeInvertsEncode : Obligations.DecodeInvertsEncode := by
  unfold Obligations.DecodeInvertsEncode
  exact fun i rest h => decode_encode h rest

/-- Settles O2: a cell's signed operand comes from a byte, and the bytes taken are the instruction's own. -/
theorem encodeInvertsDecode : Obligations.EncodeInvertsDecode := by
  unfold Obligations.EncodeInvertsDecode
  exact fun bs rest i h => ⟨wellFormed_of_decode h, eq_encode_append_of_decode h⟩

/-- Settles O3: each word is computed through its layers. -/
theorem writtenWordsDecode : Obligations.WrittenWordsDecode := by
  unfold Obligations.WrittenWordsDecode
  exact ⟨rfl, rfl, rfl, rfl, rfl, rfl, rfl, rfl, rfl, rfl, rfl, rfl, rfl, rfl, rfl, rfl, rfl, rfl⟩

/-- Settles O4: the lengths, then the bytes of each shape; the CB layers share one layout. -/
theorem encodingFields : Obligations.EncodingFields := by
  unfold Obligations.EncodingFields
  refine ⟨encode_length, ?_, ?_, ?_⟩
  · intro op r x h d n
    exact ⟨encode_alu op (.reg r), encode_alu op .memHL, encode_alu op (.imm n), encode_alu op (.memIdx x d),
      encode_alu op (.half x h), encode_incM_reg r, encode_decM_reg r, rfl, rfl, encode_incM_memIdx x d, encode_decM_memIdx x d,
      encode_incM_half x h, encode_decM_half x h⟩
  · intro op b r x d f k hf
    have hlayout : CbLayout f k := by
      rcases hf with ⟨rfl, rfl⟩ | ⟨rfl, rfl⟩ | ⟨rfl, rfl⟩ | ⟨rfl, rfl⟩
      · exact cbLayout_rot op
      · exact cbLayout_bit b
      · exact cbLayout_res b
      · exact cbLayout_set b
    obtain ⟨hreg, hmem, hidx⟩ := hlayout
    exact ⟨hreg r, hmem, hidx x d⟩
  · intro r r' x d n nn c y p
    exact ⟨encode_ldRegReg r r', encode_ldRegImm r n, encode_ldRegHL r, encode_ldRegIdx r x d, encode_ldHLReg r,
      encode_ldIdxReg x d r, rfl, encode_ldIdxImm x d n, rfl, rfl, rfl, rfl, rfl, rfl, encode_ldRpMem p nn, encode_stRpMem p nn,
      encode_adc16 p, encode_sbc16 p, encode_jpCc c nn, encode_callCc c nn, encode_retCc c, encode_rst y, encode_inReg r,
      encode_outReg r⟩

end Sys2Proof.Proofs
end

section
/-! What an instruction does, said once: the requests it issues, and the fields it leaves alone. -/

namespace Sys2Proof.Machine

open Safety Claims

/-! ### The requests of an instruction -/

/-- The address of a request that writes memory. -/
def writeAddr (x : Access) : Option Word :=
  match x with
  | .memWrite a _ => some a
  | .memRead _ _ | .ioRead _ _ | .ioWrite _ _ | .dataBus _ => none

/-- At most four requests, memory written at the addresses `stores` only, `ports` requests to the I/O device, and none for the data
bus byte (20_memory.md R62, R69, R72). -/
def Footprint (xs : List Access) (stores : List Word) (ports : Nat) : Prop :=
  xs.length ≤ 4 ∧ xs.filterMap writeAddr ⊆ stores ∧ (xs.filter isPortAccess).length = ports ∧ ∀ v, .dataBus v ∉ xs

/-- From `s` to `t` requests with this footprint were issued, and they account for memory. -/
def Issues (stores : List Word) (ports : Nat) (s t : State) : Prop := ∃ xs, Issued s xs t ∧ Footprint xs stores ports

section

variable {stores : List Word} {ports : Nat} {s t u : State}

/-- For requests written out the footprint is computed. -/
theorem Issues.of {xs : List Access} (h : Issued s xs t)
    (hstores : xs.filterMap writeAddr ⊆ stores := by exact List.Subset.refl _)
    (hlength : xs.length ≤ 4 := by simp) (hports : (xs.filter isPortAccess).length = ports := by rfl)
    (hbus : ∀ v, Access.dataBus v ∉ xs := by simp) : Issues stores ports s t :=
  ⟨xs, h, hlength, hstores, hports, hbus⟩

theorem Issues.nothing (ha : t.accesses = s.accesses) (hm : t.mem = s.mem) (hd : t.memDevice = s.memDevice) :
    Issues stores 0 s t :=
  .of (.none ha hm hd) (List.nil_subset _)

theorem Issues.then (h : Issues stores ports s t) (ha : u.accesses = t.accesses) (hm : u.mem = t.mem)
    (hd : u.memDevice = t.memDevice) : Issues stores ports s u := by
  obtain ⟨xs, hi, hx⟩ := h
  exact ⟨xs, hi.then ha hm hd, hx⟩

end

theorem Issues.memRead (s : State) (a : Word) : Issues [] 0 s (s.memRead a).2 :=
  .of (.memRead s a)

theorem Issues.memWrite (s : State) (a : Word) (v : Byte) : Issues [a] 0 s (s.memWrite a v) :=
  .of (.memWrite s a v)

theorem Issues.memReadWord (s : State) (a : Word) : Issues [] 0 s (s.memReadWord a).2 :=
  .of (.memReadWord s a)

theorem Issues.memWriteWord (s : State) (a v : Word) : Issues [a, a + 1] 0 s (s.memWriteWord a v) :=
  .of (.memWriteWord s a v)

theorem Issues.push16 (s : State) (v : Word) : Issues [s.SP - 1, s.SP - 2] 0 s (s.push16 v) :=
  .of (.push16 s v) (by rw [← sub_one_sub_one]; exact List.Subset.refl _)

theorem Issues.pop16 (s : State) : Issues [] 0 s s.pop16.2 :=
  .of (.pop16 s)

theorem Issues.ioRead (s : State) (port : Word) : Issues [] 1 s (s.ioRead port).2 :=
  .of (.ioRead s port)

theorem Issues.ioWrite (s : State) (port : Word) (v : Byte) : Issues [] 1 s (s.ioWrite port v) :=
  .of (.ioWrite s port v)

theorem Issues.readPlace (s : State) (p : Place8) : Issues [] 0 s (s.readPlace p).2 := by
  cases p with
  | reg r => exact .nothing rfl rfl rfl
  | half x h => exact .nothing rfl rfl rfl
  | mem ea => exact .memRead s _

theorem Issues.readSrc (s : State) (src : Src8) : Issues [] 0 s (s.readSrc src).2 := by
  cases src with
  | place p => exact .readPlace s p
  | imm n => exact .nothing rfl rfl rfl

/-- A place modified is written where it was read (20_memory.md R68). -/
theorem Issues.modify (s : State) (p : Place8) (f : Byte → Flags → Byte × Flags) :
    Issues (placeAddr p s) 0 s (s.modify p f) := by
  cases p with
  | reg r => cases r <;> exact .nothing rfl rfl rfl
  | half x h => cases x <;> cases h <;> exact .nothing rfl rfl rfl
  | mem ea =>
    rw [State.modify_mem]
    exact .of (xs := [.memRead (s.addr ea) _, .memWrite (s.addr ea) _]) ⟨rfl, rfl, rfl⟩

/-! ### The fields an instruction leaves alone -/

/-- The flags of a mask over F; the others cleared. -/
def Flags.mask (m : Byte) (f : Flags) : Flags where
  S := m.getLsbD 7 && f.S
  Z := m.getLsbD 6 && f.Z
  F5 := m.getLsbD 5 && f.F5
  H := m.getLsbD 4 && f.H
  F3 := m.getLsbD 3 && f.F3
  PV := m.getLsbD 2 && f.PV
  N := m.getLsbD 1 && f.N
  C := m.getLsbD 0 && f.C

/-- Masking F is masking its flags (10_state.md R26). -/
theorem Flags.pack_and (f : Flags) (m : Byte) : f.pack &&& m = (f.mask m).pack := by
  rw [← Flags.pack_unpack (f.pack &&& m)]
  congr 1
  simp only [Flags.unpack, Flags.mask, BitVec.getLsbD_and, Bool.and_comm, Flags.getLsbD_pack_S, Flags.getLsbD_pack_Z,
    Flags.getLsbD_pack_F5, Flags.getLsbD_pack_H, Flags.getLsbD_pack_F3, Flags.getLsbD_pack_PV, Flags.getLsbD_pack_N,
    Flags.getLsbD_pack_C]

/-- What an instruction may reach: the addresses it stores to, its port requests, its destinations among the general registers and
among IX, IY and SP, and the flags it keeps. -/
structure Reach where
  stores : List Word := []
  ports : Nat := 0
  regs8 : List Reg8 := []
  regs16 : List Reg16 := []
  kept : Byte := 0xFF

/-- The state without what the reach allows to change: its destinations, the flags, memory, and the devices' answers and record. -/
def Reach.outside (k : Reach) (s : State) : State :=
  let out8 (r : Reg8) : Byte := if r ∈ k.regs8 then 0 else s.get8 r
  { s with
    A := out8 .A, B := out8 .B, C := out8 .C, D := out8 .D, E := out8 .E, H := out8 .H, L := out8 .L
    F := .zero
    IX := if .IX ∈ k.regs16 then 0 else s.IX
    IY := if .IY ∈ k.regs16 then 0 else s.IY
    SP := if .SP ∈ k.regs16 then 0 else s.SP
    mem := [], memAnswers := [], portAnswers := [], draws := 0, accesses := [] }

/-- From `s` an operation goes to `t` within its reach: outside it `t` is `u`, which is `s` with the special fields written. -/
structure Does (k : Reach) (s u t : State) : Prop where
  issues : Issues k.stores k.ports s t
  flags : t.F.mask k.kept = s.F.mask k.kept
  outside : k.outside t = k.outside u

/-! ### The flags each operation keeps (10_state.md R30) -/

theorem Flags.mask_zero (f g : Flags) : f.mask 0x00 = g.mask 0x00 := rfl
theorem inc8_mask (v : Byte) (f : Flags) : (inc8 v f).2.mask 0x01 = f.mask 0x01 := rfl
theorem dec8_mask (v : Byte) (f : Flags) : (dec8 v f).2.mask 0x01 = f.mask 0x01 := rfl
theorem daa8_mask (a : Byte) (f : Flags) : (daa8 a f).2.mask 0x02 = f.mask 0x02 := by
  simp [daa8, szxy, Flags.mask]
theorem cpl8_mask (a : Byte) (f : Flags) : (cpl8 a f).2.mask 0xC5 = f.mask 0xC5 := rfl
theorem addWord_mask (a b : Word) (f : Flags) : (addWord a b f).2.mask 0xC4 = f.mask 0xC4 := by
  simp [addWord, Flags.mask]
theorem accRotFlags_mask (r : Byte) (c : Bool) (f : Flags) : (accRotFlags r c f).mask 0xC4 = f.mask 0xC4 := rfl
theorem byteFlags_mask (v : Byte) (pv : Bool) (f : Flags) : (byteFlags v pv f).mask 0x01 = f.mask 0x01 := rfl
theorem bitFlags_mask (b : Fin 8) (v : Byte) (f5 f3 : Bool) (f : Flags) : (bitFlags b v f5 f3 f).mask 0x01 = f.mask 0x01 := rfl
theorem blockLdFlags_mask (v a : Byte) (bc : Word) (f : Flags) : (blockLdFlags v a bc f).mask 0xC1 = f.mask 0xC1 := rfl
theorem blockCpFlags_mask (a v : Byte) (bc : Word) (f : Flags) : (blockCpFlags a v bc f).mask 0x01 = f.mask 0x01 := rfl

/-! ### The shared operations -/

theorem opAlu_does (op : AluOp) (src : AluSrc) (s : State) :
    Does { regs8 := if op = .CP then [] else [.A], kept := 0x00 } s s (opAlu op src s) :=
  ⟨(Issues.readSrc s src.src).then rfl rfl rfl, Flags.mask_zero _ _, by cases op <;> cases src <;> rfl⟩

/-- A place written, whatever else the reach has. -/
theorem State.writePlace_outside (s : State) (p : Place8) (v : Byte) (stores : List Word) (ports : Nat) (m : Byte) :
    Reach.outside { stores, ports, regs8 := placeReg p, regs16 := placeIdx p, kept := m } (s.writePlace p v) =
      Reach.outside { stores, ports, regs8 := placeReg p, regs16 := placeIdx p, kept := m } s := by
  cases p with
  | reg r => cases r <;> rfl
  | half x g => cases x <;> cases g <;> rfl
  | mem ea => rfl

@[simp] theorem State.writePlace_F (s : State) (p : Place8) (v : Byte) : (s.writePlace p v).F = s.F := by
  cases p with
  | reg r => exact s.set8_F r v
  | half x h => exact s.setHalf_F x h v
  | mem ea => rfl

/-- A place modified; `f` keeps the flags of the mask `m`. -/
theorem State.modify_does (s : State) (p : Place8) {f : Byte → Flags → Byte × Flags} {m : Byte}
    (h : ∀ v fl, (f v fl).2.mask m = fl.mask m) :
    Does { stores := placeAddr p s, regs8 := placeReg p, regs16 := placeIdx p, kept := m } s s (s.modify p f) := by
  refine ⟨.modify s p f, ?_, (State.writePlace_outside _ p _ _ _ _).trans ?_⟩
  · rw [State.modify, State.writePlace_F]
    exact h _ _
  · cases p <;> rfl

/-- In the CB layers a place is no index half. -/
theorem modifyCb_does (p : CbPlace) (s : State) {f : Byte → Flags → Byte × Flags} {m : Byte}
    (h : ∀ v fl, (f v fl).2.mask m = fl.mask m) :
    Does { stores := placeAddr p.place s, regs8 := placeReg p.place, kept := m } s s (s.modify p.place f) := by
  cases p <;> exact s.modify_does _ h

theorem opAcc_does (s : State) {f : Byte → Flags → Byte × Flags} {m : Byte} (h : ∀ v fl, (f v fl).2.mask m = fl.mask m) :
    Does { regs8 := [.A], kept := m } s s (opAcc f s) :=
  ⟨.nothing rfl rfl rfl, h _ _, rfl⟩

theorem opCcf_does (s : State) : Does { kept := 0xC4 } s s (opCcf s) := ⟨.nothing rfl rfl rfl, rfl, rfl⟩

theorem opScf_does (s : State) : Does { kept := 0xC4 } s s (opScf s) := ⟨.nothing rfl rfl rfl, rfl, rfl⟩

/-- A 16-bit register other than AF written. -/
theorem State.set16_does (s : State) {r : Reg16} (v : Word) (hr : r ≠ .AF) :
    Does { regs8 := pairRegs r, regs16 := [r] } s s (s.set16 r v) := by
  refine ⟨.nothing (s.set16_accesses r v) (s.set16_mem r v) (s.set16_memDevice r v), ?_, ?_⟩
  · cases r with
    | AF => exact absurd rfl hr
    | _ => rfl
  · cases r with
    | AF => exact absurd rfl hr
    | _ => rfl

/-- A 16-bit sum or difference; `f` keeps the flags of the mask `m`. -/
theorem opWord_does (src : Reg16) (s : State) {dst : Reg16} {f : Word → Word → Flags → Word × Flags} {m : Byte}
    (h : ∀ v w fl, (f v w fl).2.mask m = fl.mask m) (hdst : dst ≠ .AF) :
    Does { regs8 := pairRegs dst, regs16 := [dst], kept := m } s s (opWord f dst src s) := by
  refine ⟨.nothing (State.set16_accesses _ dst _) (State.set16_mem _ dst _) (State.set16_memDevice _ dst _), ?_, ?_⟩
  · cases dst with
    | AF => exact absurd rfl hdst
    | _ => exact h _ _ _
  · cases dst with
    | AF => exact absurd rfl hdst
    | _ => rfl

theorem opAccRot_does (op : RotOp) (s : State) : Does { regs8 := [.A], kept := 0xC4 } s s (opAccRot op s) :=
  ⟨.nothing rfl rfl rfl, accRotFlags_mask _ _ _, rfl⟩

theorem opRld_does (s : State) : Does { stores := [s.get16 .HL], regs8 := [.A], kept := 0x01 } s s (opRld s) :=
  ⟨.of ((Issued.memRead s _).trans (.memWrite _ _ _)), byteFlags_mask _ _ _, rfl⟩

theorem opRrd_does (s : State) : Does { stores := [s.get16 .HL], regs8 := [.A], kept := 0x01 } s s (opRrd s) :=
  ⟨.of ((Issued.memRead s _).trans (.memWrite _ _ _)), byteFlags_mask _ _ _, rfl⟩

theorem opBit_does (b : Fin 8) (m : CbPlace) (s : State) : Does { kept := 0x01 } s s (opBit b m s) := by
  cases m with
  | reg r => exact ⟨.nothing rfl rfl rfl, bitFlags_mask _ _ _ _ _, rfl⟩
  | memHL => exact ⟨(Issues.memRead s _).then rfl rfl rfl, bitFlags_mask _ _ _ _ _, rfl⟩
  | memIdx x d => exact ⟨(Issues.memRead s _).then rfl rfl rfl, bitFlags_mask _ _ _ _ _, rfl⟩

section

variable (dir : BlockDir) (s : State)

theorem opBlockLd_does :
    Does { stores := [s.get16 .DE], regs8 := [.B, .C, .D, .E, .H, .L], kept := 0xC1 } s s (opBlockLd dir s) := by
  rw [opBlockLd_eq]
  exact ⟨.of ⟨rfl, rfl, rfl⟩, blockLdFlags_mask _ _ _ _, rfl⟩

theorem opBlockCp_does : Does { regs8 := [.B, .C, .H, .L], kept := 0x01 } s s (opBlockCp dir s) := by
  rw [opBlockCp_eq]
  exact ⟨.of ⟨rfl, rfl, rfl⟩, blockCpFlags_mask _ _ _ _, rfl⟩

theorem opBlockIn_does :
    Does { stores := [s.get16 .HL], ports := 1, regs8 := [.B, .H, .L], kept := 0x00 } s s (opBlockIn dir s) := by
  rw [opBlockIn_eq]
  exact ⟨.of ⟨rfl, rfl, rfl⟩, Flags.mask_zero _ _, rfl⟩

theorem opBlockOut_does : Does { ports := 1, regs8 := [.B, .H, .L], kept := 0x00 } s s (opBlockOut dir s) := by
  rw [opBlockOut_eq]
  exact ⟨.of ⟨rfl, rfl, rfl⟩, Flags.mask_zero _ _, rfl⟩

end

/-! #### PC or IFF1 written afterwards -/

/-- An element whose PC is then written does the same with that PC. -/
theorem Does.withPC {k : Reach} {s u t : State} (h : Does k s u t) (pc : Word) : Does k s { u with PC := pc } { t with PC := pc } :=
  ⟨h.issues.then rfl rfl rfl, h.flags, congrArg (fun v : State => { v with PC := pc }) h.outside⟩

theorem Does.withIFF1 {k : Reach} {s u t : State} (h : Does k s u t) (b : Bool) :
    Does k s { u with IFF1 := b } { t with IFF1 := b } :=
  ⟨h.issues.then rfl rfl rfl, h.flags, congrArg (fun v : State => { v with IFF1 := b }) h.outside⟩

/-- `repeat_tail` writes PC and nothing else (44_block.md R250). -/
theorem Does.repeatTail {k : Reach} {s t : State} (h : Does k s s t) (c : Bool) :
    Does k s { s with PC := (repeatTail c t).PC } (repeatTail c t) := by
  rw [repeatTail_eq]
  exact h.withPC _

/-! #### Loads and exchanges -/

theorem Reach.outside_readSrc (k : Reach) (s : State) (src : Src8) : k.outside (s.readSrc src).2 = k.outside s := by
  rcases src with ⟨_ | _ | _⟩ | _ <;> rfl

/-- Reading a source leaves the address of a destination as it was (45_load_exchange.md R280). -/
theorem State.addr_readSrc (s : State) (src : Src8) (ea : Ea) : (s.readSrc src).2.addr ea = s.addr ea := by
  rcases src with ⟨_ | _ | ea'⟩ | _
  case place.mem => rcases ea with _ | _ | _ | ⟨⟨_⟩, d⟩ | _ <;> rfl
  all_goals rfl

theorem Issues.opLd8 (dst : Place8) (src : Src8) (s : State) : Issues (placeAddr dst s) 0 s (opLd8 dst src s) := by
  cases dst with
  | reg r => exact (readSrc s src).then (State.set8_accesses _ r _) (State.set8_mem _ r _) (State.set8_memDevice _ r _)
  | half x h =>
    exact (readSrc s src).then (State.setHalf_accesses _ x h _) (State.setHalf_mem _ x h _) (State.setHalf_memDevice _ x h _)
  | mem ea =>
    have hwrite : Machine.opLd8 (.mem ea) src s = (s.readSrc src).2.memWrite (s.addr ea) (s.readSrc src).1 := by
      rw [← s.addr_readSrc src]
      rfl
    rw [hwrite]
    rcases src with ⟨_ | _ | _⟩ | _
    case place.mem => exact .of ((Issued.memRead s _).trans (.memWrite _ _ _))
    all_goals exact .memWrite s _ _

/-- An 8-bit load reaches its destination and keeps every flag (R281 to R294). -/
theorem opLd8_does (dst : Place8) (src : Src8) (s : State) :
    Does { stores := placeAddr dst s, regs8 := placeReg dst, regs16 := placeIdx dst } s s (opLd8 dst src s) := by
  refine ⟨.opLd8 dst src s, ?_, (State.writePlace_outside _ dst _ _ _ _).trans (Reach.outside_readSrc _ s src)⟩
  rw [opLd8, State.writePlace_F]
  rcases src with ⟨_ | _ | _⟩ | _ <;> rfl

theorem opLdASpecial_does (v : Byte) (s : State) : Does { regs8 := [.A], kept := 0x01 } s s (opLdASpecial v s) :=
  ⟨.nothing rfl rfl rfl, byteFlags_mask _ _ _, rfl⟩

theorem opLdFromMem_does (nn : Word) (s : State) {r : Reg16} (hr : r ≠ .AF) :
    Does { regs8 := pairRegs r, regs16 := [r] } s s (opLdFromMem r nn s) := by
  have h := State.set16_does (s.memReadWord nn).2 (s.memReadWord nn).1 hr
  exact ⟨(Issues.memReadWord s nn).then (State.set16_accesses _ r _) (State.set16_mem _ r _) (State.set16_memDevice _ r _),
    h.flags,
    h.outside⟩

theorem opStToMem_does (r : Reg16) (nn : Word) (s : State) : Does { stores := [nn, nn + 1] } s s (opStToMem r nn s) :=
  ⟨.memWriteWord s nn _, rfl, rfl⟩

theorem opExDeHl_does (s : State) : Does { regs8 := [.D, .E, .H, .L] } s s (opExDeHl s) := ⟨.nothing rfl rfl rfl, rfl, rfl⟩

theorem opExAf_does (s : State) :
    Does { regs8 := [.A], kept := 0x00 } s { s with A' := s.A, F' := s.F.pack } (opExAf s) := ⟨.nothing rfl rfl rfl, rfl, rfl⟩

theorem opExx_does (s : State) :
    Does { regs8 := [.B, .C, .D, .E, .H, .L] } s
      { s with B' := s.B, C' := s.C, D' := s.D, E' := s.E, H' := s.H, L' := s.L } (opExx s) := ⟨.nothing rfl rfl rfl, rfl, rfl⟩

theorem opExSp_does (xx : Xx) (s : State) :
    Does { stores := [s.SP, s.SP + 1], regs8 := pairRegs xx.reg, regs16 := [xx.reg] } s s (opExSp xx.reg s) := by
  rw [opExSp_eq]
  refine ⟨?_, ?_, ?_⟩
  · exact .of (xs := [.memRead s.SP _, .memRead (s.SP + 1) _, .memWrite (s.SP + 1) _, .memWrite s.SP _])
      ⟨State.set16_accesses _ _ _, State.set16_mem _ _ _, State.set16_memDevice _ _ _⟩ (List.Perm.swap _ _ _).subset
  · cases xx <;> rfl
  · cases xx <;> rfl

theorem State.push16_does (s : State) (v : Word) :
    Does { stores := [s.SP - 1, s.SP - 2], regs16 := [.SP] } s s (s.push16 v) := ⟨.push16 s _, rfl, rfl⟩

theorem opPop_does (q : Qq) (s : State) :
    Does { regs8 := pairRegs q.reg, regs16 := [.SP, q.reg], kept := if q = .AF then 0x00 else 0xFF } s s (opPop q.reg s) := by
  refine ⟨(Issues.pop16 s).then (State.set16_accesses _ _ _) (State.set16_mem _ _ _) (State.set16_memDevice _ _ _), ?_, ?_⟩
  · cases q <;> rfl
  · rw [opPop_eq]
    cases q <;> simp [Reach.outside, pairRegs, Qq.reg, State.set16, State.get8]

/-! #### Control flow -/

theorem opJump_does (target : Word) (s : State) : Does {} s { s with PC := target } (opJump target s) :=
  ⟨.nothing rfl rfl rfl, rfl, rfl⟩

theorem opCall_does (target : Word) (s : State) :
    Does { stores := [s.SP - 1, s.SP - 2], regs16 := [.SP] } s { s with PC := target } (opCall target s) :=
  (s.push16_does s.PC).withPC target

theorem returnToCaller_does (s : State) : Does { regs16 := [.SP] } s { s with PC := s.pop16.1 } (returnToCaller s) :=
  ⟨(Issues.pop16 s).then rfl rfl rfl, rfl, by simp [Reach.outside, returnToCaller, State.get8]⟩

/-- An operation under a condition: where it is not met nothing is done. -/
theorem Does.opIf {k : Reach} {s : State} {f : State → State} (c : Cond) (hports : k.ports = 0)
    (h : Does k s { s with PC := (f s).PC } (f s)) : Does k s { s with PC := (opIf c f s).PC } (opIf c f s) := by
  unfold Machine.opIf
  split
  · exact h
  · exact ⟨hports ▸ .nothing rfl rfl rfl, rfl, rfl⟩

/-- CALL cc pushes where its condition is met (46_control_flow.md R338). -/
theorem opIf_opCall_does (c : Cond) (target : Word) (s : State) :
    Does { stores := if condition c s.F then [s.SP - 1, s.SP - 2] else [], regs16 := [.SP] } s
      { s with PC := (opIf c (opCall target) s).PC } (opIf c (opCall target) s) := by
  unfold opIf
  split
  · exact opCall_does target s
  · exact ⟨.nothing rfl rfl rfl, rfl, rfl⟩

theorem opDjnz_does (e : Int) (s : State) : Does { regs8 := [.B] } s { s with PC := (opDjnz e s).PC } (opDjnz e s) := by
  rw [opDjnz_eq]
  exact ⟨.nothing rfl rfl rfl, rfl, rfl⟩

/-! #### Ports -/

theorem opInReg_does (r : Reg8) (s : State) : Does { ports := 1, regs8 := [r], kept := 0x01 } s s (opInReg r s) := by
  rw [opInReg_eq]
  refine ⟨.of (xs := [.ioRead (s.get16 .BC) _])
    ⟨State.set8_accesses _ _ _, State.set8_mem _ _ _, State.set8_memDevice _ _ _⟩, ?_, ?_⟩
  · rw [State.set8_F]
    exact byteFlags_mask _ _ _
  · cases r <;> rfl

theorem opInA_does (n : Byte) (s : State) : Does { ports := 1, regs8 := [.A] } s s (opInA n s) :=
  ⟨(Issues.ioRead s _).then rfl rfl rfl, rfl, rfl⟩

theorem ioWrite_does (port : Word) (v : Byte) (s : State) : Does { ports := 1 } s s (s.ioWrite port v) :=
  ⟨.ioWrite s port v, rfl, rfl⟩

end Sys2Proof.Machine
end

section
/-! Every shape within its reach, and what follows for each instruction: the frame rules. -/

namespace Sys2Proof

open Machine Claims

/-- What a shape with its operands may reach, by the tables of its rules. -/
def Form.reach (f : Form) (s : State) : Reach where
  stores := storeAddrs f s
  ports := if reachesPorts f then 1 else 0
  regs8 := dest8 f
  regs16 := dest16 f
  kept := keptFlags f

/-- What a shape writes of the special registers, the interrupt state and the shadow set (10_state.md R24, R33 to R38). -/
def Form.special (f : Form) (s : State) : State :=
  match f with
  | .ldIA => { s with I := s.A }
  | .ldRA => { s with R := s.A }
  | .exAF => { s with A' := s.A, F' := s.F.pack }
  | .exx => { s with B' := s.B, C' := s.C, D' := s.D, E' := s.E, H' := s.H, L' := s.L }
  | .reti => { s with IFF1 := true }
  | .retn => { s with IFF1 := s.IFF2 }
  | .halt => { s with Halted := true }
  | .di => opDi s
  | .ei => opEi s
  | .im m => opIm m s
  | _ => s

theorem Rr.reg_ne_AF (rr : Rr) : rr.reg ≠ .AF := by cases rr <;> decide
theorem Rp.reg_ne_AF (p : Rp) : p.reg ≠ .AF := by cases p <;> decide
theorem Xx.reg_ne_AF (xx : Xx) : xx.reg ≠ .AF := by cases xx <;> decide

end Sys2Proof

namespace Sys2Proof.Machine

open Safety Claims

/-- HL is none of IX, IY and SP. -/
theorem Does.pairHL {stores : List Word} {ports : Nat} {regs8 : List Reg8} {kept : Byte} {s u t : State}
    (h : Does { stores, ports, regs8, regs16 := [.HL], kept } s u t) : Does { stores, ports, regs8, regs16 := [], kept } s u t :=
  ⟨h.issues, h.flags, h.outside⟩

/-- Every shape does what its rules allow, PC and the special fields as given, and nothing else. -/
theorem execForm_does (f : Form) (s : State) :
    Does (f.reach s) s { f.special s with PC := if writesPC f then (execForm f s).PC else s.PC } (execForm f s) := by
  cases f with
  | alu op src => exact opAlu_does op src s
  | incM m => exact s.modify_does m.place inc8_mask
  | decM m => exact s.modify_does m.place dec8_mask
  | daa => exact opAcc_does s daa8_mask
  | cpl => exact opAcc_does s cpl8_mask
  | neg => exact opAcc_does s fun _ _ => Flags.mask_zero _ _
  | ccf => exact opCcf_does s
  | scf => exact opScf_does s
  | add16 dst src => exact opWord_does _ s addWord_mask dst.reg_ne_AF
  | adc16 src => exact (opWord_does (dst := .HL) src.reg s (fun _ _ _ => Flags.mask_zero _ _) (by decide)).pairHL
  | sbc16 src => exact (opWord_does (dst := .HL) src.reg s (fun _ _ _ => Flags.mask_zero _ _) (by decide)).pairHL
  | inc16 rr => exact s.set16_does _ rr.reg_ne_AF
  | dec16 rr => exact s.set16_does _ rr.reg_ne_AF
  | rlca => exact opAccRot_does .RLC s
  | rrca => exact opAccRot_does .RRC s
  | rla => exact opAccRot_does .RL s
  | rra => exact opAccRot_does .RR s
  | rot op m => exact modifyCb_does (f := rot8 op) m s fun _ _ => Flags.mask_zero _ _
  | rld => exact opRld_does s
  | rrd => exact opRrd_does s
  | bit b m => exact opBit_does b m s
  | set b m => exact modifyCb_does (f := fun v f => (setBit8 b v, f)) m s fun _ _ => rfl
  | res b m => exact modifyCb_does (f := fun v f => (resetBit8 b v, f)) m s fun _ _ => rfl
  | ldi => exact opBlockLd_does .up s
  | ldd => exact opBlockLd_does .down s
  | ldir => exact (opBlockLd_does .up s).repeatTail _
  | lddr => exact (opBlockLd_does .down s).repeatTail _
  | cpi => exact opBlockCp_does .up s
  | cpd => exact opBlockCp_does .down s
  | cpir => exact (opBlockCp_does .up s).repeatTail _
  | cpdr => exact (opBlockCp_does .down s).repeatTail _
  | ini => exact opBlockIn_does .up s
  | ind => exact opBlockIn_does .down s
  | inir => exact (opBlockIn_does .up s).repeatTail _
  | indr => exact (opBlockIn_does .down s).repeatTail _
  | outi => exact opBlockOut_does .up s
  | outd => exact opBlockOut_does .down s
  | otir => exact (opBlockOut_does .up s).repeatTail _
  | otdr => exact (opBlockOut_does .down s).repeatTail _
  | ldRegReg dst src => exact opLd8_does (.reg dst) _ s
  | ldRegImm r n => exact opLd8_does (.reg r) _ s
  | ldRegHL r => exact opLd8_does (.reg r) _ s
  | ldRegIdx r x d => exact opLd8_does (.reg r) _ s
  | ldHLReg r => exact opLd8_does (.mem .HL) _ s
  | ldIdxReg x d r => exact opLd8_does (.mem (.idx x d)) _ s
  | ldHLImm n => exact opLd8_does (.mem .HL) _ s
  | ldIdxImm x d n => exact opLd8_does (.mem (.idx x d)) _ s
  | ldAPair p => exact opLd8_does (.reg .A) _ s
  | ldAMem nn => exact opLd8_does (.reg .A) _ s
  | ldPairA p => exact opLd8_does (.mem p.ea) _ s
  | ldMemA nn => exact opLd8_does (.mem (.abs nn)) _ s
  | ldRegHalf r x h => exact opLd8_does (.reg r.reg) _ s
  | ldHalfReg x h r => exact opLd8_does (.half x h) _ s
  | ldHalfHalf x dst src => exact opLd8_does (.half x dst) _ s
  | ldHalfImm x h n => exact opLd8_does (.half x h) _ s
  | ldAI => exact opLdASpecial_does s.I s
  | ldAR => exact opLdASpecial_does s.R s
  | ldIA => exact ⟨.nothing rfl rfl rfl, rfl, rfl⟩
  | ldRA => exact ⟨.nothing rfl rfl rfl, rfl, rfl⟩
  | ldRrImm rr nn => exact s.set16_does nn rr.reg_ne_AF
  | ldHLMem nn => exact (opLdFromMem_does (r := .HL) nn s (by decide)).pairHL
  | ldRpMem p nn => exact opLdFromMem_does nn s p.reg_ne_AF
  | ldIdxMem x nn =>
    cases x with
    | IX => exact opLdFromMem_does (r := .IX) nn s (by decide)
    | IY => exact opLdFromMem_does (r := .IY) nn s (by decide)
  | stHLMem nn => exact opStToMem_does .HL nn s
  | stRpMem p nn => exact opStToMem_does p.reg nn s
  | stIdxMem x nn => exact opStToMem_does x.reg nn s
  | ldSP xx => exact s.set16_does (r := .SP) _ (by decide)
  | exDEHL => exact opExDeHl_does s
  | exAF => exact opExAf_does s
  | exx => exact opExx_does s
  | exSP xx => exact opExSp_does xx s
  | push q => exact s.push16_does _
  | pop q => exact opPop_does q s
  | jp nn => exact opJump_does nn s
  | jpCc c nn => exact (opJump_does nn s).opIf c rfl
  | jr e => exact opJump_does _ s
  | jrCc c e => exact Does.opIf (f := opJumpRelative e) c.cond rfl (opJump_does _ s)
  | jpReg xx => exact opJump_does _ s
  | djnz e => exact opDjnz_does e s
  | call nn => exact opCall_does nn s
  | callCc c nn => exact opIf_opCall_does c nn s
  | ret => exact returnToCaller_does s
  | retCc c => exact (returnToCaller_does s).opIf c rfl
  | reti => exact (returnToCaller_does s).withIFF1 true
  | retn => exact (returnToCaller_does s).withIFF1 s.IFF2
  | rst y => exact opCall_does _ s
  | inReg r => exact opInReg_does r s
  | inA n => exact opInA_does n s
  | outReg r => exact ioWrite_does _ _ s
  | outA n => exact ioWrite_does _ _ s
  | nop => exact ⟨.nothing rfl rfl rfl, rfl, rfl⟩
  | halt => exact ⟨.nothing rfl rfl rfl, rfl, rfl⟩
  | di => exact ⟨.nothing rfl rfl rfl, rfl, rfl⟩
  | ei => exact ⟨.nothing rfl rfl rfl, rfl, rfl⟩
  | im m => exact ⟨.nothing rfl rfl rfl, rfl, rfl⟩

/-! ### Reading the frame off -/

section

variable {f : Form} {s t : State}

theorem eq_execForm_of_exec (h : exec f.instr s = .next t) : t = execForm f s := by
  rw [exec_form] at h
  exact (Host.Outcome.next.inj h).symm

/-- What an instruction leaves, by its shape. -/
theorem does_of_exec (h : exec f.instr s = .next t) :
    Does (f.reach s) s { f.special s with PC := if writesPC f then t.PC else s.PC } t := by
  rw [eq_execForm_of_exec h]
  exact execForm_does f s

end

/-- Outside its reach an operation changes no byte of memory (20_memory.md R63, R71). -/
theorem read_deliver (d : MemDevice) {a : Word} {xs : List Access} (h : a ∉ xs.filterMap writeAddr) (m : Memory) :
    (deliver d xs m).read a.toNat = m.read a.toNat := by
  induction xs generalizing m with
  | nil => rfl
  | cons x xs ih =>
    cases x with
    | memWrite b v =>
      obtain ⟨hb, hrest⟩ := not_or.mp (List.mem_cons.not.mp h)
      exact (ih hrest _).trans ((d.read_write m b a v).trans (if_neg fun hab => hb hab.1))
    | memRead _ _ => exact ih h m
    | ioRead _ _ => exact ih h m
    | ioWrite _ _ => exact ih h m
    | dataBus _ => exact ih h m

section

variable {k : Reach} {s u t : State}

theorem Does.stored (h : Does k s u t) {a : Word} (ha : a ∉ k.stores) : t.stored a = s.stored a := by
  obtain ⟨xs, ⟨-, hmem, -⟩, -, hstores, -⟩ := h.issues
  unfold State.stored
  rw [hmem]
  exact read_deliver _ (fun hx => ha (hstores hx)) _

/-- Equal outside a reach: a register that is no destination. -/
theorem Reach.get8_eq (h : k.outside t = k.outside u) {r : Reg8} (hr : r ∉ k.regs8) : t.get8 r = u.get8 r := by
  have hout := congrArg (State.get8 · r) h
  cases r <;> simpa [Reach.outside, State.get8, hr] using hout

theorem Reach.IX_eq (h : k.outside t = k.outside u) (hr : .IX ∉ k.regs16) : t.IX = u.IX := by
  simpa [Reach.outside, hr] using congrArg State.IX h

theorem Reach.IY_eq (h : k.outside t = k.outside u) (hr : .IY ∉ k.regs16) : t.IY = u.IY := by
  simpa [Reach.outside, hr] using congrArg State.IY h

theorem Reach.SP_eq (h : k.outside t = k.outside u) (hr : .SP ∉ k.regs16) : t.SP = u.SP := by
  simpa [Reach.outside, hr] using congrArg State.SP h

end

/-- No special write is to a general register, IX, IY or SP. -/
theorem special_regs (f : Form) (s : State) :
    (∀ r, (f.special s).get8 r = s.get8 r) ∧ (f.special s).IX = s.IX ∧ (f.special s).IY = s.IY ∧ (f.special s).SP = s.SP := by
  unfold Form.special
  split <;> exact ⟨fun r => by cases r <;> rfl, rfl, rfl, rfl⟩

/-- No special write is to the model's own fields, `eiPending` included: `EI_DELAY` is false (10_state.md R39). -/
theorem special_own (f : Form) (s : State) :
    (f.special s).eiPending = s.eiPending ∧ (f.special s).schedule = s.schedule ∧ (f.special s).report = s.report := by
  unfold Form.special
  split <;> exact ⟨rfl, rfl, rfl⟩

/-- From `s` to `t` the special fields are written by their instructions only (10_state.md R24, R33 to R38). -/
def SpecialKept (i : Instr) (s t : State) : Prop :=
  (i ≠ .ld_I_A → t.I = s.I) ∧
  (i ≠ .ld_R_A → t.R = s.R) ∧
  (i ≠ .di → i ≠ .ei → i ≠ .retn → i ≠ .reti → t.IFF1 = s.IFF1) ∧
  (i ≠ .di → i ≠ .ei → t.IFF2 = s.IFF2) ∧
  (i ≠ .im_0 → i ≠ .im_1 → i ≠ .im_2 → t.IM = s.IM) ∧
  (i ≠ .halt → t.Halted = s.Halted) ∧
  (i ≠ .ex_AF_AF → t.A' = s.A' ∧ t.F' = s.F') ∧
  (i ≠ .exx → t.B' = s.B' ∧ t.C' = s.C' ∧ t.D' = s.D' ∧ t.E' = s.E' ∧ t.H' = s.H' ∧ t.L' = s.L')

theorem special_specialKept (f : Form) (s : State) : SpecialKept f.instr s (f.special s) := by
  unfold SpecialKept
  cases f with
  | im m => cases m <;> simp [Form.special, Form.instr, opIm]
  | _ => simp [Form.special, Form.instr, opDi, opEi]

/-- The special fields are outside every reach. -/
theorem SpecialKept.of_outside {k : Reach} {i : Instr} {s t u : State} (h : k.outside t = k.outside u) (hu : SpecialKept i s u) :
    SpecialKept i s t := by
  have hout : SpecialKept i s (k.outside u) := hu
  rw [← h] at hout
  exact hout

end Sys2Proof.Machine

namespace Sys2Proof.Proofs

open Machine Claims Safety

/-- Settles O11: every shape issues at most four requests, and they account for memory. -/
theorem memoryChangesByIssuedWritesOnly : Obligations.MemoryChangesByIssuedWritesOnly := by
  unfold Obligations.MemoryChangesByIssuedWritesOnly
  intro i s
  obtain ⟨xs, ⟨hacc, hmem, hdev⟩, hlength, -⟩ := (execForm_does i.form s).issues
  exact ⟨execForm i.form s, xs, exec_eq_next i s, hacc, hmem, hdev, hlength⟩

/-- Settles O13: the writes issued are to the shape's addresses. -/
theorem memoryFrame : Obligations.MemoryFrame := by
  unfold Obligations.MemoryFrame
  exact fun f s t h a ha => (does_of_exec h).stored ha

/-- Settles O14: the state is the same outside the shape's destinations, and no special field is one of these registers. -/
theorem registerFrame : Obligations.RegisterFrame := by
  unfold Obligations.RegisterFrame
  intro f s t h
  have hout := (does_of_exec h).outside
  obtain ⟨h8, hIX, hIY, hSP⟩ := special_regs f s
  refine ⟨fun r hr => ?_, fun hr => ?_, fun hr => ?_, fun hr => ?_⟩
  · rw [← h8]
    exact (Reach.get8_eq hout hr).trans (by cases r <;> rfl)
  · exact (Reach.IX_eq hout hr).trans hIX
  · exact (Reach.IY_eq hout hr).trans hIY
  · exact (Reach.SP_eq hout hr).trans hSP

/-- Settles O15: masking F is masking its flags, and each operation keeps those of its row. -/
theorem flagFrame : Obligations.FlagFrame := by
  unfold Obligations.FlagFrame
  intro f s t h
  rw [Flags.pack_and, Flags.pack_and]
  exact congrArg Flags.pack (does_of_exec h).flags

/-- Settles O16: outside the reach the special fields are those `Form.special` writes, each by its own instructions. -/
theorem specialRegisterFrame : Obligations.SpecialRegisterFrame := by
  unfold Obligations.SpecialRegisterFrame
  intro i s t h
  rw [← i.form_instr] at h ⊢
  exact SpecialKept.of_outside (does_of_exec h).outside (special_specialKept i.form s)

/-- Settles O17: PC is outside every reach, and is written where `writesPC` says. -/
theorem programCounterFrame : Obligations.ProgramCounterFrame := by
  unfold Obligations.ProgramCounterFrame
  intro f s t h hpc
  have hout : t.PC = if writesPC f then t.PC else s.PC := congrArg State.PC (does_of_exec h).outside
  rwa [hpc, if_neg Bool.false_ne_true] at hout

/-- Settles O18: the footprint of the requests counts those to ports; the schedule and the report are outside every reach. -/
theorem portFrame : Obligations.PortFrame := by
  unfold Obligations.PortFrame
  intro f s t h
  have hdoes := does_of_exec h
  obtain ⟨-, hschedule, hreport⟩ := special_own f s
  obtain ⟨xs, ⟨hacc, -, -⟩, -, -, hports, hbus⟩ := hdoes.issues
  exact ⟨(congrArg State.schedule hdoes.outside).trans hschedule, (congrArg State.report hdoes.outside).trans hreport, xs, hacc,
    hports, hbus⟩

end Sys2Proof.Proofs
end

section
/-! Which four bytes are no instruction (30_encoding.md R95 to R103). -/

namespace Sys2Proof

open Machine Claims

/-- How many operand bytes a cell takes; none where it is no instruction of its layer (R91). -/
def Entry.operands (e : Entry) : Option Nat :=
  match e with
  | .op _ => some 0
  | .opN _ => some 1
  | .opS _ => some 1
  | .opSN _ => some 2
  | .opNN _ => some 2
  | .lead => none
  | .bad => none

theorem decodeOperands_undefined {e : Entry} (h : e.operands = none) (why : Reject) (bs : List Byte) :
    decodeOperands e why bs = .error why :=
  match e, h with
  | .lead, _ => rfl
  | .bad, _ => rfl

theorem decodeOperands_defined {e : Entry} {n : Nat} (h : e.operands = some n) (why : Reject) {bs : List Byte}
    (hbs : n ≤ bs.length) :
    ∃ i rest, decodeOperands e why bs = .ok (i, rest) := by
  cases e with
  | op i => exact ⟨i, bs, rfl⟩
  | opN f =>
    cases h
    obtain ⟨n, rest, rfl⟩ := List.exists_cons_of_length_pos hbs
    exact ⟨f n, rest, rfl⟩
  | opS f =>
    cases h
    obtain ⟨d, rest, rfl⟩ := List.exists_cons_of_length_pos hbs
    exact ⟨f (signedByte d), rest, rfl⟩
  | opSN f =>
    cases h
    match bs, hbs with
    | d :: n :: rest, _ => exact ⟨f (signedByte d) n, rest, rfl⟩
  | opNN f =>
    cases h
    match bs, hbs with
    | lo :: hi :: rest, _ => exact ⟨f (joinBytes hi lo), rest, rfl⟩
  | lead => cases h
  | bad => cases h

/-- Two operand bytes are enough for every cell. -/
theorem decodeOperands_two {e : Entry} (h : e.operands.isSome = true) (why : Reject) (x y : Byte) (bs : List Byte) :
    ∃ i rest, decodeOperands e why (x :: y :: bs) = .ok (i, rest) := by
  obtain ⟨n, hn⟩ := Option.isSome_iff_exists.mp h
  have htwo : n ≤ 2 := by cases e <;> cases hn <;> decide
  exact decodeOperands_defined hn why (by simp only [List.length_cons]; omega)

/-! ### The maps of R110 to R114: which cells are instructions -/

theorem baseGrid_operands : ∀ op : Byte,
    (gridAt baseGrid op).operands.isSome = !([0xCB, 0xED, 0xDD, 0xFD] : List Byte).contains op :=
  eq_of_byteRows_eq rfl
theorem cbGrid_operands : ∀ op : Byte, (gridAt cbGrid op).operands = some 0 := eq_of_byteRows_eq rfl
theorem edGrid_operands : ∀ op : Byte, (gridAt edGrid op).operands.isSome = edAdmitted op := eq_of_byteRows_eq rfl
theorem ddGrid_operands : ∀ op : Byte, (gridAt ddGrid op).operands.isSome = indexAdmitted op := eq_of_byteRows_eq rfl
theorem fdGrid_operands : ∀ op : Byte, (gridAt fdGrid op).operands.isSome = indexAdmitted op := eq_of_byteRows_eq rfl
theorem ddcbGrid_operands : ∀ op : Byte, (gridAt ddcbGrid op).operands = if opZ op = 6 then some 1 else none :=
  eq_of_byteRows_eq rfl
theorem fdcbGrid_operands : ∀ op : Byte, (gridAt fdcbGrid op).operands = if opZ op = 6 then some 1 else none :=
  eq_of_byteRows_eq rfl

theorem operands_eq_none {e : Entry} {admitted : Bool} (h : e.operands.isSome = admitted) (hno : admitted = false) :
    e.operands = none := Option.isSome_eq_false_iff.mp (h.trans hno) |> Option.isNone_iff_eq_none.mp

/-! ### Decoding a window of four bytes, layer by layer -/

section

variable (a b c d : Byte)

/-- The base layer and the CB layer have no undefined sequence (R95, R96). -/
theorem decode_unprefixed (hED : a ≠ 0xED) (hDD : a ≠ 0xDD) (hFD : a ≠ 0xFD) :
    ∃ i rest, decode [a, b, c, d] = .ok (i, rest) := by
  simp only [decode]
  by_cases hCB : a = 0xCB
  · rw [if_pos hCB]
    exact decodeOperands_defined (cbGrid_operands b) _ (Nat.zero_le _)
  · rw [if_neg hCB, if_neg hED, if_neg hDD, if_neg hFD]
    have hlead : ([0xCB, 0xED, 0xDD, 0xFD] : List Byte).contains a = false := by
      rw [List.contains_eq_mem, decide_eq_false_iff_not]
      exact fun hmem => by
        obtain h | h | h | h := by simpa only [List.mem_cons, List.not_mem_nil, or_false] using hmem
        exacts [hCB h, hED h, hDD h, hFD h]
    exact decodeOperands_two ((baseGrid_operands a).trans (by rw [hlead]; rfl)) _ b c [d]

/-- The ED layer (R98, R99). -/
theorem decode_ED_admitted (h : edAdmitted b = true) : ∃ i rest, decode [0xED, b, c, d] = .ok (i, rest) :=
  decodeOperands_two ((edGrid_operands b).trans h) (.edUndefined b) c d []

theorem decode_ED_undefined (h : edAdmitted b = false) : decode [0xED, b, c, d] = .error (.edUndefined b) :=
  decodeOperands_undefined (operands_eq_none (edGrid_operands b) h) (.edUndefined b) [c, d]

variable {b} (x : Idx)

/-- The DD and FD layers (R100, R102, R103). -/
theorem decode_index_admitted (hb : b ≠ 0xCB) (h : indexAdmitted b = true) :
    ∃ i rest, decode [leadByte x, b, c, d] = .ok (i, rest) := by
  cases x with
  | IX =>
    show ∃ i rest, decodeIndexed 0xDD ddGrid ddcbGrid [b, c, d] = .ok (i, rest)
    rw [decodeIndexed, if_neg hb]
    exact decodeOperands_two ((ddGrid_operands b).trans h) _ c d []
  | IY =>
    show ∃ i rest, decodeIndexed 0xFD fdGrid fdcbGrid [b, c, d] = .ok (i, rest)
    rw [decodeIndexed, if_neg hb]
    exact decodeOperands_two ((fdGrid_operands b).trans h) _ c d []

theorem decode_index_undefined (hb : b ≠ 0xCB) (h : indexAdmitted b = false) :
    decode [leadByte x, b, c, d] = .error (.noIndexForm (leadByte x) b) := by
  cases x with
  | IX =>
    show decodeIndexed 0xDD ddGrid ddcbGrid [b, c, d] = _
    rw [decodeIndexed, if_neg hb]
    exact decodeOperands_undefined (operands_eq_none (ddGrid_operands b) h) _ _
  | IY =>
    show decodeIndexed 0xFD fdGrid fdcbGrid [b, c, d] = _
    rw [decodeIndexed, if_neg hb]
    exact decodeOperands_undefined (operands_eq_none (fdGrid_operands b) h) _ _

/-- The indexed CB layers (R101): the last byte selects. -/
theorem decode_indexedCb_admitted (h : opZ d = 6) : ∃ i rest, decode [leadByte x, 0xCB, c, d] = .ok (i, rest) := by
  cases x with
  | IX => exact decodeOperands_defined ((ddcbGrid_operands d).trans (if_pos h)) (.indexedCbUndefined 0xDD c d) (bs := [c]) le_rfl
  | IY => exact decodeOperands_defined ((fdcbGrid_operands d).trans (if_pos h)) (.indexedCbUndefined 0xFD c d) (bs := [c]) le_rfl

theorem decode_indexedCb_undefined (h : opZ d ≠ 6) :
    decode [leadByte x, 0xCB, c, d] = .error (.indexedCbUndefined (leadByte x) c d) := by
  cases x with
  | IX => exact decodeOperands_undefined ((ddcbGrid_operands d).trans (if_neg h)) _ [c]
  | IY => exact decodeOperands_undefined ((fdcbGrid_operands d).trans (if_neg h)) _ [c]

end

/-- A rejected window begins with the bytes of the error (R106). -/
theorem bytes_prefix_of_decode_error {a b c d : Byte} {why : Reject} (h : decode [a, b, c, d] = .error why) :
    why.bytes ≠ [] ∧ why.bytes <+: [a, b, c, d] := by
  have clash {r : Decoded} (hok : ∃ i rest, r = .ok (i, rest)) (herr : r = .error why) : False := by
    obtain ⟨i, rest, hr⟩ := hok
    cases hr.symm.trans herr
  by_cases hED : a = 0xED
  · subst hED
    cases hb : edAdmitted b with
    | true => exact (clash (decode_ED_admitted b c d hb) h).elim
    | false =>
      cases (decode_ED_undefined b c d hb).symm.trans h
      exact ⟨List.cons_ne_nil _ _, [c, d], rfl⟩
  by_cases hx : ∃ x, a = leadByte x
  · obtain ⟨x, rfl⟩ := hx
    by_cases hCB : b = 0xCB
    · subst hCB
      by_cases hd : opZ d = 6
      · exact (clash (decode_indexedCb_admitted c d x hd) h).elim
      · cases (decode_indexedCb_undefined c d x hd).symm.trans h
        exact ⟨List.cons_ne_nil _ _, [], rfl⟩
    · cases hb : indexAdmitted b with
      | true => exact (clash (decode_index_admitted c d x hCB hb) h).elim
      | false =>
        cases (decode_index_undefined c d x hCB hb).symm.trans h
        exact ⟨List.cons_ne_nil _ _, [c, d], rfl⟩
  · exact (clash (decode_unprefixed a b c d hED (fun h => hx ⟨.IX, h⟩) (fun h => hx ⟨.IY, h⟩)) h).elim

end Sys2Proof
end

section
/-! Every event: what a step can do, that its requests account for memory, and what it reports (30_encoding.md R93, R106;
60_exceptions.md R410 to R414, R440). -/

namespace Sys2Proof.Machine

open Claims Safety

/-! ### The three ends of a step -/

/-- A step that ends in DecodeError made the reads of the bytes it carries. -/
theorem decodeError_eq_afterError (bytes : List Byte) (s : State) : decodeError bytes s = AfterError s bytes := by
  have hfetch : decodeError bytes s =
      { fetched Config.params bytes.length s with PC := s.PC }.raise (.decodeError s.PC bytes) := rfl
  rw [hfetch, fetched_eq_afterFetch]
  rfl

section

variable {s t : State}

theorem stepEvent_halted (h : s.Halted = true) : stepEvent s = .next (begun s) := if_pos h

theorem stepEvent_of_decode_error {why : Reject} (h : s.Halted = false) (hd : decode (fetchWindow s) = .error why) :
    stepEvent s = .next (AfterError s why.bytes) := by
  simp [stepEvent, h, hd, decodeError_eq_afterError]

theorem stepEvent_of_decode {i : Instr} {rest : List Byte} (h : s.Halted = false) (hd : decode (fetchWindow s) = .ok (i, rest)) :
    stepEvent s = .next (execForm i.form (AfterFetch s (4 - rest.length))) := by
  simp [stepEvent, h, hd, fetched_eq_afterFetch, exec_eq_next]

/-- A step idles, raises DecodeError, or runs an instruction. -/
theorem stepEvent_cases (s : State) :
    stepEvent s = .next (begun s) ∨
    (∃ why, s.Halted = false ∧ decode (fetchWindow s) = .error why ∧ stepEvent s = .next (AfterError s why.bytes)) ∨
    ∃ f n, stepEvent s = .next (execForm f (AfterFetch s n)) := by
  cases h : s.Halted with
  | true => exact .inl (stepEvent_halted h)
  | false =>
    cases hd : decode (fetchWindow s) with
    | error why => exact .inr (.inl ⟨why, rfl, rfl, stepEvent_of_decode_error h hd⟩)
    | ok r => exact .inr (.inr ⟨_, _, stepEvent_of_decode h hd⟩)

theorem step_unscheduled (h : s.schedule = []) : step s = stepEvent s := by
  rw [step, h]

theorem step_scheduled {a : HostAction} {rest : List HostAction} (h : s.schedule = a :: rest) :
    step s = perform a { s with schedule := rest } := by
  rw [step, h]

end

/-! ### The requests of an event account for memory -/

/-- The requests recorded in `t` are those of an event that began in `s`, they account for memory, and the bit of R394 stays
clear (20_memory.md R63, R69, R71). -/
structure Accounts (s t : State) : Prop where
  device : t.memDevice = s.memDevice
  mem : t.mem = deliver s.memDevice t.accesses s.mem
  eiPending : s.eiPending = false → t.eiPending = false

theorem Issued.accounts {s t : State} {xs : List Access} (h : Issued (begun s) xs t) (he : t.eiPending = s.eiPending) :
    Accounts s t := by
  obtain ⟨hacc, hmem, hdev⟩ := h
  exact ⟨hdev, by rw [hacc]; exact hmem, he.trans⟩

theorem deliver_memReads {α : Type} (d : MemDevice) (addr : α → Word) (v : α → Byte) (l : List α) (m : Memory) :
    deliver d (l.map fun p => .memRead (addr p) (v p)) m = m := by
  induction l with
  | nil => rfl
  | cons x l ih => exact ih

theorem Issued.afterReads (s : State) (addrs : List Word) :
    Issued s (addrs.zipIdx.map fun p => .memRead p.1 (s.memAnswer p.2 p.1)) (afterReads s addrs) :=
  ⟨rfl, (deliver_memReads _ _ _ _ _).symm, rfl⟩

theorem accounts_begun (s : State) : Accounts s (begun s) := ⟨rfl, rfl, id⟩

theorem accounts_afterError (s : State) (bytes : List Byte) : Accounts s (AfterError s bytes) :=
  ((Issued.afterReads (begun s) (addrsFrom s.PC bytes.length)).then (u := AfterError s bytes) rfl rfl rfl).accounts rfl

theorem accounts_execForm (f : Form) (n : Nat) (s : State) : Accounts s (execForm f (AfterFetch s n)) := by
  have hdoes := execForm_does f (AfterFetch s n)
  obtain ⟨xs, hissued, -⟩ := hdoes.issues
  have hfetch := (Issued.afterReads (begun s) (addrsFrom s.PC n)).then (u := AfterFetch s n) rfl rfl rfl
  exact (hfetch.trans hissued).accounts ((congrArg State.eiPending hdoes.outside).trans (special_own f _).1)

theorem accounts_maskableInterrupt (bus : Byte) (s : State) : Accounts s (maskableInterrupt Config.params bus (begun s)) := by
  cases h : s.IFF1 with
  | false =>
    rw [maskableInterrupt_discarded bus (s := begun s) h]
    exact accounts_begun s
  | true =>
    rw [maskableInterrupt_taken bus (s := begun s) h]
    obtain ⟨_, hentry, -⟩ := Issued.interruptEntry false s.IFF2 (begun s)
    obtain ⟨_, hvector, -⟩ := Issued.maskableVector bus (interruptEntry false s.IFF2 (begun s))
    exact (hentry.trans hvector).accounts (by rw [maskableVector_eiPending, interruptEntry_eiPending]; rfl)

theorem accounts_nonMaskableInterrupt (s : State) : Accounts s (nonMaskableInterrupt Config.params (begun s)) := by
  rw [nonMaskableInterrupt_eq]
  obtain ⟨_, hentry, -⟩ := Issued.interruptEntry (begun s).IFF1 (begun s).IFF2 (begun s)
  have hei := interruptEntry_eiPending (begun s).IFF1 (begun s).IFF2 (begun s)
  generalize interruptEntry (begun s).IFF1 (begun s).IFF2 (begun s) = t at hentry hei
  exact (hentry.then (u := { t with PC := 0x0066 }) rfl rfl rfl).accounts hei

theorem stepEvent_accounts {s t : State} (h : stepEvent s = .next t) : Accounts s t := by
  obtain hend | ⟨why, -, -, hend⟩ | ⟨f, n, hend⟩ := stepEvent_cases s
  · cases hend.symm.trans h
    exact accounts_begun s
  · cases hend.symm.trans h
    exact accounts_afterError s _
  · cases hend.symm.trans h
    exact accounts_execForm f n s

/-- A host write of IM sets it or is rejected (60_exceptions.md R412). -/
theorem hostWrite_IM (v : Nat) (s : State) :
    (∃ m, hostWrite .IM v s = { s with IM := m }) ∨ hostWrite .IM v s = s.raise (.invalidInterruptMode v) :=
  match v with
  | 0 => .inl ⟨_, rfl⟩
  | 1 => .inl ⟨_, rfl⟩
  | 2 => .inl ⟨_, rfl⟩
  | _ + 3 => .inr rfl

/-- A host write is no event: memory and the record stay (70_reset_and_hazards.md R452). -/
theorem hostWrite_keeps (field : HostField) (v : Nat) (s : State) :
    let t := hostWrite field v s
    t.memDevice = s.memDevice ∧ t.mem = s.mem ∧ t.accesses = s.accesses ∧ t.eiPending = s.eiPending := by
  cases field with
  | IM =>
    obtain ⟨m, h⟩ | h := hostWrite_IM v s <;> rw [h] <;> exact ⟨rfl, rfl, rfl, rfl⟩
  | _ => exact ⟨rfl, rfl, rfl, rfl⟩

/-- What the host does accounts for memory, but for a write of core state. -/
theorem perform_accounts {a : HostAction} {s t : State} (h : perform a s = .next t) (ha : ∀ field v, a ≠ .write field v) :
    Accounts s t := by
  cases a with
  | step => exact stepEvent_accounts h
  | maskable bus =>
    cases h
    exact accounts_maskableInterrupt bus s
  | nmi =>
    cases h
    exact accounts_nonMaskableInterrupt s
  | reset =>
    cases h
    exact ⟨rfl, rfl, fun _ => rfl⟩
  | write field v => exact (ha field v rfl).elim

theorem step_accounts {s t : State} (h : step s = .next t) (hevent : ∀ field v rest, s.schedule ≠ .write field v :: rest) :
    Accounts s t := by
  cases hsched : s.schedule with
  | nil => exact stepEvent_accounts ((step_unscheduled hsched).symm.trans h)
  | cons a rest =>
    obtain ⟨hdev, hmem, hei⟩ := perform_accounts ((step_scheduled hsched).symm.trans h)
      fun field v ha => hevent field v rest (hsched.trans (by rw [ha]))
    exact ⟨hdev, hmem, hei⟩

theorem step_hostWrite {s : State} {field : HostField} {v : Nat} {rest : List HostAction}
    (h : s.schedule = .write field v :: rest) :
    step s = .next (hostWrite field v { s with schedule := rest, report := none }) := step_scheduled h

/-! ### What an event reports -/

theorem execForm_report (f : Form) (s : State) : (execForm f s).report = s.report :=
  (congrArg State.report (execForm_does f s).outside).trans (special_own f s).2.2

theorem interruptEntry_report (iff1 iff2 : Bool) (s : State) : (interruptEntry iff1 iff2 s).report = s.report := by
  rw [interruptEntry_eq, State.push16_report]

theorem maskableVector_report (bus : Byte) (s : State) : (maskableVector bus s).report = s.report := by
  unfold maskableVector
  split <;> rfl

theorem maskableInterrupt_report (bus : Byte) (s : State) : (maskableInterrupt Config.params bus s).report = s.report := by
  cases h : s.IFF1 with
  | false => rw [maskableInterrupt_discarded bus h]
  | true => rw [maskableInterrupt_taken bus h, maskableVector_report, interruptEntry_report]

theorem nonMaskableInterrupt_report (s : State) : (nonMaskableInterrupt Config.params s).report = s.report := by
  rw [nonMaskableInterrupt_eq, ← interruptEntry_report s.IFF1 s.IFF2 s]

/-- The one error of a step is DecodeError, with bytes it fetched (60_exceptions.md R410). -/
theorem eq_afterError_of_report {s t : State} {f : Fault} (h : stepEvent s = .next t) (hf : t.report = some f) :
    ∃ why, s.Halted = false ∧ decode (fetchWindow s) = .error why ∧ f = .decodeError s.PC why.bytes ∧
      t = AfterError s why.bytes := by
  obtain hend | ⟨why, hrun, hd, hend⟩ | ⟨g, n, hend⟩ := stepEvent_cases s
  · cases hend.symm.trans h
    cases hf
  · cases hend.symm.trans h
    cases hf
    exact ⟨why, hrun, hd, rfl, rfl⟩
  · cases hend.symm.trans h
    rw [execForm_report] at hf
    cases hf

/-- The one error of a host write is E3, of IM (60_exceptions.md R412). -/
theorem eq_raise_of_hostWrite_report {field : HostField} {v : Nat} {s : State} {f : Fault} (hs : s.report = none)
    (h : (hostWrite field v s).report = some f) :
    field = .IM ∧ f = .invalidInterruptMode v ∧ 2 < v ∧ hostWrite field v s = s.raise f := by
  have clash {P : Prop} (hr : s.report = some f) : P := by
    rw [hs] at hr
    cases hr
  cases field with
  | IM =>
    match v with
    | 0 => exact clash h
    | 1 => exact clash h
    | 2 => exact clash h
    | v + 3 =>
      cases h
      exact ⟨rfl, rfl, by omega, rfl⟩
  | _ => exact clash h

/-- On `PLAIN_RAM` a step that raised DecodeError leaves what it read in place: the same window, and the same end. -/
theorem fetchWindow_afterError {s : State} (h : s.memDevice = .plainRam) (bytes : List Byte) :
    fetchWindow (AfterError s bytes) = fetchWindow s := by
  simp [fetchWindow, AfterError, afterReads, begun, State.memAnswer, State.stored, h]

theorem afterError_afterError {s : State} (h : s.memDevice = .plainRam) (bytes : List Byte) :
    AfterError (AfterError s bytes) bytes = AfterError s bytes := by
  simp [AfterError, afterReads, begun, State.memAnswer, State.stored, MemDevice.draws, h]

end Sys2Proof.Machine

namespace Sys2Proof.Proofs

open Machine Claims Safety

/-- Settles O10: an event's memory is the delivery of its requests, which keeps the canonical form; a host write keeps memory. -/
theorem stepKeepsInvariant : Obligations.StepKeepsInvariant := by
  unfold Obligations.StepKeepsInvariant
  intro s t ⟨hwf, hei⟩ h
  by_cases hwrite : ∃ field v rest, s.schedule = .write field v :: rest
  · obtain ⟨field, v, rest, hsched⟩ := hwrite
    cases (step_hostWrite hsched).symm.trans h
    obtain ⟨-, hmem, -, hkept⟩ := hostWrite_keeps field v { s with schedule := rest, report := none }
    exact ⟨(congrArg Memory.wf hmem).trans hwf, hkept.trans hei⟩
  · have haccounts := step_accounts h fun field v rest hsched => hwrite ⟨field, v, rest, hsched⟩
    exact ⟨by rw [haccounts.mem]; exact wf_deliver _ _ hwf, haccounts.eiPending hei⟩

/-- Settles O12: `Accounts` for each event; a host write keeps memory and the record. -/
theorem stepMemoryIsAccountedFor : Obligations.StepMemoryIsAccountedFor := by
  unfold Obligations.StepMemoryIsAccountedFor
  intro s t h
  by_cases hwrite : ∃ field v rest, s.schedule = .write field v :: rest
  · obtain ⟨field, v, rest, hsched⟩ := hwrite
    cases (step_hostWrite hsched).symm.trans h
    obtain ⟨hdev, hmem, hacc, -⟩ := hostWrite_keeps field v { s with schedule := rest, report := none }
    exact ⟨hdev, fun hevent => (hevent field v rest hsched).elim, fun _ _ _ _ => ⟨hmem, hacc⟩⟩
  · have haccounts := step_accounts h fun field v rest hsched => hwrite ⟨field, v, rest, hsched⟩
    exact ⟨haccounts.device, fun _ => haccounts.mem, fun field v rest hsched => (hwrite ⟨field, v, rest, hsched⟩).elim⟩

/-- Settles O7: the maps of R110 to R114 decide which windows are undefined; a step runs what decodes. -/
theorem undefinedBytesFault : Obligations.UndefinedBytesFault := by
  unfold Obligations.UndefinedBytesFault
  intro s ⟨hsched, hrun⟩ b runs
  have hstep := step_unscheduled hsched
  have hwindow : fetchWindow s = [b 0, b 1, b 2, b 3] := by
    have hzero : s.PC + BitVec.ofNat 16 0 = s.PC := BitVec.add_zero _
    simp only [b, hzero]
    rfl
  have hruns (h : ∃ i rest, decode [b 0, b 1, b 2, b 3] = .ok (i, rest)) : runs := by
    obtain ⟨i, rest, hd⟩ := h
    exact ⟨_, hstep.trans (stepEvent_of_decode hrun (hwindow ▸ hd)), execForm_report _ _⟩
  have hfaults (why : Reject) (h : decode [b 0, b 1, b 2, b 3] = .error why) : step s = .next (AfterError s why.bytes) :=
    hstep.trans (stepEvent_of_decode_error hrun (hwindow ▸ h))
  refine ⟨fun hED hDD hFD => hruns (decode_unprefixed _ _ _ _ hED hDD hFD), fun h0 h1 => ?_, fun h0 h1 => ?_,
    fun x h0 => ⟨?_, ?_, ?_, ?_⟩, fun hram t f ht hf => ?_⟩
  · exact hfaults (.edUndefined (b 1)) (by rw [h0]; exact decode_ED_undefined _ _ _ h1)
  · exact hruns (by rw [h0]; exact decode_ED_admitted _ _ _ h1)
  · exact fun hCB h1 => hfaults (.noIndexForm (leadByte x) (b 1)) (by rw [h0]; exact decode_index_undefined _ _ x hCB h1)
  · exact fun hCB h1 => hruns (by rw [h0]; exact decode_index_admitted _ _ x hCB h1)
  · exact fun hCB h3 => hfaults (.indexedCbUndefined (leadByte x) (b 2) (b 3))
      (by rw [h0, hCB]; exact decode_indexedCb_undefined _ _ x h3)
  · exact fun hCB h3 => hruns (by rw [h0, hCB]; exact decode_indexedCb_admitted _ _ x h3)
  · rw [hstep] at ht
    obtain ⟨why, -, hd, -, rfl⟩ := eq_afterError_of_report ht hf
    have hagain : stepEvent (AfterError s why.bytes) = .next (AfterError (AfterError s why.bytes) why.bytes) :=
      stepEvent_of_decode_error hrun (by rw [fetchWindow_afterError hram]; exact hd)
    rw [step_unscheduled (s := AfterError s why.bytes) hsched, hagain, afterError_afterError hram]

/-- Settles O8: of the events only a step reports, and only DecodeError; of the host writes only one of IM. -/
theorem onlyListedFaults : Obligations.OnlyListedFaults := by
  unfold Obligations.OnlyListedFaults
  intro s
  have hstep {u : State} (hPC : u.PC = s.PC) (hwindow : fetchWindow u = fetchWindow s) (hhalted : u.Halted = s.Halted) :
      ∃ t, stepEvent u = .next t ∧ ∀ f, t.report = some f → ∃ bytes, f = .decodeError s.PC bytes ∧ bytes ≠ [] ∧
        bytes <+: fetchWindow s ∧ s.Halted = false ∧ t = AfterError u bytes := by
    have hnext : ∃ t, stepEvent u = .next t := by
      obtain h | ⟨why, -, -, h⟩ | ⟨f, n, h⟩ := stepEvent_cases u <;> exact ⟨_, h⟩
    obtain ⟨t, h⟩ := hnext
    refine ⟨t, h, fun f hf => ?_⟩
    obtain ⟨why, hrun, hd, rfl, rfl⟩ := eq_afterError_of_report h hf
    obtain ⟨hne, hprefix⟩ := bytes_prefix_of_decode_error hd
    exact ⟨why.bytes, by rw [hPC], hne, by rw [← hwindow]; exact hprefix, by rw [← hhalted]; exact hrun, rfl⟩
  cases hsched : s.schedule with
  | nil =>
    obtain ⟨t, h, hreport⟩ := hstep (u := s) rfl rfl rfl
    refine ⟨t, (step_unscheduled hsched).trans h, fun f hf => .inl ?_⟩
    obtain ⟨bytes, hfault, hne, hprefix, hrun, ht⟩ := hreport f hf
    exact ⟨bytes, hfault, hne, hprefix, hrun, .inl ⟨rfl, ht⟩⟩
  | cons a rest =>
    rw [step_scheduled hsched]
    cases a with
    | step =>
      obtain ⟨t, h, hreport⟩ := hstep (u := { s with schedule := rest }) rfl rfl rfl
      refine ⟨t, h, fun f hf => .inl ?_⟩
      obtain ⟨bytes, hfault, hne, hprefix, hrun, ht⟩ := hreport f hf
      exact ⟨bytes, hfault, hne, hprefix, hrun, .inr ⟨rest, rfl, ht⟩⟩
    | maskable bus =>
      exact ⟨_, rfl, fun f hf => by rw [maskableInterrupt_report] at hf; cases hf⟩
    | nmi => exact ⟨_, rfl, fun f hf => by rw [nonMaskableInterrupt_report] at hf; cases hf⟩
    | reset => exact ⟨_, rfl, fun f hf => by cases hf⟩
    | write field v =>
      refine ⟨_, rfl, fun f hf => .inr ?_⟩
      obtain ⟨rfl, rfl, hv, ht⟩ := eq_raise_of_hostWrite_report rfl hf
      exact ⟨v, rest, rfl, hv, rfl, ht⟩

/-- Settles O6. -/
theorem haltedStepIsIdle : Obligations.HaltedStepIsIdle := by
  unfold Obligations.HaltedStepIsIdle
  exact fun s hsched hhalted => (step_unscheduled hsched).trans (stepEvent_halted hhalted)

/-- Settles O9: no byte is listed at reset, and the bit starts clear. -/
theorem resetMeetsInvariant : Obligations.ResetMeetsInvariant := by
  unfold Obligations.ResetMeetsInvariant
  exact ⟨rfl, rfl⟩

/-- Settles O20. -/
theorem resetEventKeepsMemory : Obligations.ResetEventKeepsMemory := by
  unfold Obligations.ResetEventKeepsMemory
  exact fun s rest hsched => step_scheduled hsched

end Sys2Proof.Proofs
end

section
/-! Memory, register pairs and operands (20_memory.md R60 to R78; 10_state.md R23, R25; 45_load_exchange.md R280 to R292). -/

namespace Sys2Proof.Machine

open Claims

/-! ### What a write leaves to read -/

/-- An answer of a device that keeps contents is its contents, unless it is external. -/
theorem State.memAnswer_of_ne_external {s : State} (h : s.memDevice ≠ .external) (k : Nat) (a : Word) :
    s.memAnswer k a = s.stored a := by
  unfold State.memAnswer
  split
  · rfl
  · rfl
  · next he => exact (h he).elim

theorem State.peek_memWrite {s : State} (h : s.memDevice ≠ .external) (a b : Word) (v : Byte) :
    (s.memWrite a v).peek b = if b = a ∧ s.memDevice.keeps a = true then v else s.peek b := by
  rw [State.peek, State.memAnswer_of_ne_external (s := s.memWrite a v) h, State.stored_memWrite, State.peek,
    State.memAnswer_of_ne_external h]

/-- A region's protection reaches from its first to its last address. -/
theorem keeps_protectedRam_iff (regions : List (Word × Word)) (a : Word) :
    (MemDevice.protectedRam regions).keeps a = true ↔ ∀ r ∈ regions, a < r.1 ∨ r.2 < a := by
  simp [MemDevice.keeps]

/-- A write to an external device is recorded only: what it answers next is as before. -/
theorem State.memWrite_external {s : State} (h : s.memDevice = .external) (a b : Word) (v : Byte) :
    (s.memWrite a v).mem = s.mem ∧ (s.memWrite a v).peek b = s.peek b := by
  have hmem : (s.memWrite a v).mem = s.mem := by rw [State.memWrite_mem, h, MemDevice.write_external]
  exact ⟨hmem, State.memAnswer_congr (s := s) (t := s.memWrite a v) rfl hmem rfl rfl 0 b⟩

theorem State.memAnswer_scripted {s : State} (h : s.memDevice = .external) {k : Nat} {x : Byte} (hx : s.memAnswers[k]? = some x)
    (a : Word) : s.memAnswer k a = x := by
  simp [State.memAnswer, h, hx]

section

variable {s : State} (h : s.memDevice = .plainRam) (a : Word) (w : Word)
include h

theorem State.stored_memWriteWord_plainRam (b : Word) :
    (s.memWriteWord a w).stored b = if b = a + 1 then hiByte w else if b = a then loByte w else s.stored b := by
  have hlow : (s.memWrite a (loByte w)).memDevice = .plainRam := h
  show ((s.memWrite a (loByte w)).memWrite (a + 1) (hiByte w)).stored b = _
  rw [State.stored_memWrite_plainRam hlow, State.stored_memWrite_plainRam h]

theorem wordAt_memWriteWord : wordAt (s.memWriteWord a w) a = w := by
  rw [wordAt_plainRam (s := s.memWriteWord a w) h, State.stored_memWriteWord_plainRam h, State.stored_memWriteWord_plainRam h,
    if_pos rfl, if_neg (add_one_ne_self a).symm, if_pos rfl, joinBytes_hi_lo]

end

/-! ### Register pairs -/

/-- A word joined from two bytes is their concatenation, high byte first (10_state.md R23). -/
theorem joinBytes_eq_append (h l : Byte) : joinBytes h l = h ++ l := by
  apply BitVec.eq_of_toNat_eq
  have hh := h.isLt
  have hl := l.isLt
  rw [BitVec.toNat_append, ← Nat.shiftLeft_add_eq_or_of_lt hl, Nat.shiftLeft_eq, joinBytes, BitVec.toNat_ofNat]
  omega

theorem State.get16_set16_ne (s : State) {r q : Reg16} (h : q ≠ r) (v : Word) : (s.set16 r v).get16 q = s.get16 q := by
  cases r <;> cases q <;> simp [State.set16, State.get16] at h ⊢

/-! ### The effective address of an indexed operand -/

/-- The index register plus the signed displacement, mod 2^16 (45_load_exchange.md R280). -/
theorem State.toNat_addr_idx (s : State) (x : Idx) (d : Int) :
    ((s.addr (.idx x d)).toNat : Int) = (((s.get16 x.reg).toNat : Int) + d) % 65536 := by
  show ((s.get16 x.reg + BitVec.ofInt 16 d).toNat : Int) = _
  rw [BitVec.toNat_add, BitVec.toNat_ofInt]
  omega

end Sys2Proof.Machine

namespace Sys2Proof.Proofs

open Machine Claims Safety

/-- Settles O22: each device by what it keeps of a write. -/
theorem memoryReadsWhatWasWritten : Obligations.MemoryReadsWhatWasWritten := by
  unfold Obligations.MemoryReadsWhatWasWritten
  intro s a b v w
  refine ⟨rfl, s.memReadWord_eq_afterReads a, rfl, rfl, fun hram => ⟨fun k => State.memAnswer_plainRam hram k b, ?_, ?_, ?_⟩,
    fun regions hrom => ?_, fun hext => ?_⟩
  · rw [State.peek_memWrite (by rw [hram]; decide), hram, MemDevice.keeps_plainRam]
    simp only [and_true]
  · exact wordAt_memWriteWord hram a w
  · intro hlo hhi
    rw [State.peek_plainRam (s := s.memWriteWord a w) hram, State.stored_memWriteWord_plainRam hram, if_neg hhi, if_neg hlo,
      State.peek_plainRam hram]
  · have hne : s.memDevice ≠ .external := by
      rw [hrom]
      exact MemDevice.noConfusion
    refine ⟨fun k => State.memAnswer_of_ne_external hne k b, ?_⟩
    simp only [State.peek_memWrite hne, hrom, keeps_protectedRam_iff]
  · obtain ⟨hmem, hpeek⟩ := State.memWrite_external hext a b v
    exact ⟨hmem, hpeek, fun k x hx => State.memAnswer_scripted hext hx b⟩

/-- Settles O23. -/
theorem pairsComposeTheirHalves : Obligations.PairsComposeTheirHalves := by
  unfold Obligations.PairsComposeTheirHalves
  exact fun s r q v => ⟨s.get16_set16_self r v, fun h => s.get16_set16_ne h v, joinBytes_eq_append _ _, joinBytes_eq_append _ _,
    joinBytes_eq_append _ _, joinBytes_eq_append _ _⟩

/-- Settles O24: a memory operand is one read, a register or immediate operand changes nothing. -/
theorem sourceOperandsAndAddresses : Obligations.SourceOperandsAndAddresses := by
  unfold Obligations.SourceOperandsAndAddresses
  exact fun s => ⟨fun _ => rfl, fun _ => rfl, rfl, rfl, rfl, rfl, rfl, fun _ _ => rfl,
    fun d => ⟨s.toNat_addr_idx .IX d, s.toNat_addr_idx .IY d⟩⟩

/-- Settles O45: each is `opLd8` from a source to a place, with the operand's one read. -/
theorem byteLoadAndStoreResult : Obligations.ByteLoadAndStoreResult := by
  unfold Obligations.ByteLoadAndStoreResult
  exact fun r r' x d n p nn s => ⟨exec_form (.ldRegReg r r') s, exec_form (.ldRegImm r n) s, exec_form (.ldRegHL r) s,
    exec_form (.ldRegIdx r x d) s, exec_form (.ldAPair p) s, exec_form (.ldAMem nn) s, exec_form (.ldHLReg r) s,
    exec_form (.ldIdxReg x d r) s, exec_form (.ldHLImm n) s, exec_form (.ldIdxImm x d n) s, exec_form (.ldPairA p) s,
    exec_form (.ldMemA nn) s⟩

end Sys2Proof.Proofs
end

section
/-! Interrupt entry and return, and the host's writes (60_exceptions.md R412, R420 to R443; 70_reset_and_hazards.md R452). -/

namespace Sys2Proof.Machine

open Claims

/-! ### Entry -/

/-- The PC an interrupt entry pushes: past a HALT (60_exceptions.md R423, R431). -/
def State.resumePC (s : State) : Word := if s.Halted then s.PC + 1 else s.PC

/-- The core awake, the enables as given, PC pushed. -/
def State.pushed (iff1 iff2 : Bool) (s : State) : State :=
  { s with Halted := false, IFF1 := iff1, IFF2 := iff2, PC := s.resumePC }.push16 s.resumePC

theorem maskableInterrupt_eq (bus : Byte) {s : State} (h : s.IFF1 = true) :
    maskableInterrupt Config.params bus s = maskableVector bus (s.pushed false s.IFF2) := by
  rw [maskableInterrupt_taken bus h, interruptEntry_eq]
  rfl

theorem nonMaskableInterrupt_eq_pushed (s : State) :
    nonMaskableInterrupt Config.params s = { s.pushed s.IFF1 s.IFF2 with PC := 0x0066 } := by
  rw [nonMaskableInterrupt_eq, interruptEntry_eq]
  rfl

theorem State.pushed_accesses (iff1 iff2 : Bool) (s : State) :
    (s.pushed iff1 iff2).accesses =
      s.accesses ++ [.memWrite (s.SP - 1) (hiByte s.resumePC), .memWrite (s.SP - 2) (loByte s.resumePC)] := by
  rw [← sub_one_sub_one, State.pushed, State.push16_eq]

theorem maskableVector_fixed (bus : Byte) {s : State} (h : s.IM = .im0 ∨ s.IM = .im1) :
    maskableVector bus s = { s with PC := 0x0038 } := by
  unfold maskableVector
  split
  · rfl
  · rfl
  · next h2 => simp [h2] at h

/-- Mode 2 vectors through the table's word, asked for after the data bus byte (60_exceptions.md R424). -/
theorem maskableVector_table (bus : Byte) {s : State} (h : s.IM = .im2) :
    maskableVector bus s =
      { afterReads { s with accesses := s.accesses ++ [.dataBus bus] } [joinBytes s.I bus, joinBytes s.I bus + 1] with
        PC := wordAt s (joinBytes s.I bus) } := by
  unfold maskableVector
  split
  · next h0 => cases h.symm.trans h0
  · next h1 => cases h.symm.trans h1
  · simp only [State.memReadWord_eq_afterReads]
    rfl

/-- An event the schedule listed has begun. -/
def State.began (rest : List HostAction) (s : State) : State := { begun s with schedule := rest }

theorem step_maskable {s : State} {bus : Byte} {rest : List HostAction} (h : s.schedule = .maskable bus :: rest) :
    step s = .next (maskableInterrupt Config.params bus (s.began rest)) := step_scheduled h

theorem step_nmi {s : State} {rest : List HostAction} (h : s.schedule = .nmi :: rest) :
    step s = .next { (s.began rest).pushed s.IFF1 s.IFF2 with PC := 0x0066 } :=
  (step_scheduled h).trans (congrArg Host.Outcome.next (nonMaskableInterrupt_eq_pushed (s.began rest)))

/-- The maskable request taken: the push, then the mode's vector. -/
theorem step_maskable_taken {s : State} {bus : Byte} {rest : List HostAction} (h : s.schedule = .maskable bus :: rest)
    (hon : s.IFF1 = true) : step s = .next (maskableVector bus ((s.began rest).pushed false s.IFF2)) :=
  (step_maskable h).trans (congrArg Host.Outcome.next (maskableInterrupt_eq bus (s := s.began rest) hon))

/-! ### Return -/

/-- What is left of an entry when its handler begins, of what a return reads. -/
structure Entered (u t : State) : Prop where
  device : t.memDevice = u.memDevice
  mem : t.mem = u.mem
  SP : t.SP = u.SP
  IFF2 : t.IFF2 = u.IFF2
  Halted : t.Halted = u.Halted

theorem maskableVector_entered (bus : Byte) (s : State) : Entered s (maskableVector bus s) := by
  unfold maskableVector
  split <;> exact ⟨rfl, rfl, rfl, rfl, rfl⟩

theorem State.pop16_pushed (iff1 iff2 : Bool) {s : State} (h : s.memDevice = .plainRam) :
    (s.pushed iff1 iff2).pop16.1 = s.resumePC ∧ (s.pushed iff1 iff2).pop16.2.SP = s.SP :=
  State.pop16_push16 (s := { s with Halted := false, IFF1 := iff1, IFF2 := iff2, PC := s.resumePC }) h s.resumePC

/-- On `PLAIN_RAM` a return pops what the entry pushed. -/
theorem Entered.returns {s t : State} {iff1 iff2 : Bool} (h : Entered (s.pushed iff1 iff2) t) (hram : s.memDevice = .plainRam) :
    (returnToCaller t).PC = s.resumePC ∧ (returnToCaller t).SP = s.SP ∧ (returnToCaller t).IFF2 = iff2 ∧
      (returnToCaller t).Halted = false := by
  obtain ⟨hdev, hmem, hSP, hIFF2, hHalted⟩ := h
  obtain ⟨hpop, hback⟩ := State.pop16_pushed iff1 iff2 hram
  have hword (u : State) (hu : u.memDevice = .plainRam) : u.pop16.1 = joinBytes (u.stored (u.SP + 1)) (u.stored u.SP) := by
    rw [State.pop16_eq_afterReads, wordAt_plainRam hu]
  refine ⟨?_, ?_, hIFF2, hHalted⟩
  · show t.pop16.1 = s.resumePC
    rw [← hpop, hword t (hdev.trans hram), hword (s.pushed iff1 iff2) hram, hSP, State.stored_congr hmem, State.stored_congr hmem]
  · show t.SP + 1 + 1 = s.SP
    rw [← hback, hSP]
    rfl

/-! ### Host writes of core state -/

theorem bitNat_hostBit (v : Nat) : bitNat (hostBit v) = v % 2 := by
  unfold bitNat hostBit
  cases Nat.mod_two_eq_zero_or_one v <;> simp_all

/-- The field written holds the number masked to its width (70_reset_and_hazards.md R452). -/
theorem fieldValue_hostWrite_self {field : HostField} {v : Nat} (h : field = .IM → v ≤ 2) (s : State) :
    fieldValue (hostWrite field v s) field = v % 2 ^ fieldWidth field := by
  cases field with
  | IM =>
    match v, h rfl with
    | 0, _ => rfl
    | 1, _ => rfl
    | 2, _ => rfl
  | F =>
    show (Flags.unpack (BitVec.ofNat 8 v)).pack.toNat = _
    rw [Flags.pack_unpack]
    rfl
  | IFF1 => exact bitNat_hostBit v
  | IFF2 => exact bitNat_hostBit v
  | Halted => exact bitNat_hostBit v
  | _ => rfl

/-- A host write is of its field alone. -/
theorem fieldValue_hostWrite_ne {field g : HostField} (h : g ≠ field) (v : Nat) (s : State) :
    fieldValue (hostWrite field v s) g = fieldValue s g := by
  cases field with
  | IM =>
    obtain ⟨m, hw⟩ | hw := hostWrite_IM v s <;> rw [hw] <;> cases g <;> simp [fieldValue, State.raise] at h ⊢
  | _ => cases g <;> simp [fieldValue, hostWrite] at h ⊢

theorem hostWrite_report {field : HostField} {v : Nat} (h : field = .IM → v ≤ 2) (s : State) :
    (hostWrite field v s).report = s.report := by
  cases field with
  | IM =>
    match v, h rfl with
    | 0, _ => rfl
    | 1, _ => rfl
    | 2, _ => rfl
  | _ => rfl

/-- The model's own fields stay, but for the report. -/
theorem hostWrite_own (field : HostField) (v : Nat) (s : State) :
    (hostWrite field v s).memAnswers = s.memAnswers ∧ (hostWrite field v s).portAnswers = s.portAnswers ∧
      (hostWrite field v s).draws = s.draws ∧ (hostWrite field v s).schedule = s.schedule := by
  cases field with
  | IM =>
    obtain ⟨m, h⟩ | h := hostWrite_IM v s <;> rw [h] <;> exact ⟨rfl, rfl, rfl, rfl⟩
  | _ => exact ⟨rfl, rfl, rfl, rfl⟩

end Sys2Proof.Machine

namespace Sys2Proof.Proofs

open Machine Claims Safety

/-- Settles O56: discarded, or the push and then the mode's vector. -/
theorem maskableInterruptResult : Obligations.MaskableInterruptResult := by
  unfold Obligations.MaskableInterruptResult
  intro s bus rest hsched back pushed table
  have hpushed : pushed = (s.began rest).pushed false s.IFF2 := rfl
  have hI : pushed.I = s.I := rfl
  have hIM : pushed.IM = s.IM := rfl
  have haccesses : pushed.accesses = [.memWrite (s.SP - 1) (hiByte back), .memWrite (s.SP - 2) (loByte back)] :=
    State.pushed_accesses false s.IFF2 (s.began rest)
  clear_value pushed
  refine ⟨fun hoff => ?_, fun hon hmode => ?_, fun hon hmode => ⟨haccesses, ?_⟩⟩
  · rw [step_maskable hsched, maskableInterrupt_discarded bus (s := s.began rest) hoff]
    rfl
  · rw [step_maskable_taken hsched hon, ← hpushed, maskableVector_fixed bus (by rwa [hIM])]
  · rw [step_maskable_taken hsched hon, ← hpushed, maskableVector_table bus (hIM.trans hmode), hI]

/-- Settles O57. -/
theorem nonMaskableEntry : Obligations.NonMaskableEntry := by
  unfold Obligations.NonMaskableEntry
  exact fun s rest hsched => step_nmi hsched

/-- Settles O58: the return pops what the entry pushed, and no vector touches it. -/
theorem interruptReturnResumes : Obligations.InterruptReturnResumes := by
  unfold Obligations.InterruptReturnResumes
  intro s bus rest back hram
  refine ⟨fun hsched hon => ?_, fun hsched => ?_⟩
  · obtain ⟨hPC, hSP, hIFF2, hHalted⟩ := (maskableVector_entered bus ((s.began rest).pushed false s.IFF2)).returns hram
    exact ⟨_, _, step_maskable_taken hsched hon, exec_form .reti _, hPC, hSP, rfl, hIFF2, hHalted⟩
  · have hentered : Entered ((s.began rest).pushed s.IFF1 s.IFF2) { (s.began rest).pushed s.IFF1 s.IFF2 with PC := 0x0066 } :=
      ⟨rfl, rfl, rfl, rfl, rfl⟩
    obtain ⟨hPC, hSP, hIFF2, hHalted⟩ := hentered.returns hram
    exact ⟨_, _, step_nmi hsched, exec_form .retn _, hPC, hSP, hIFF2, hIFF2, hHalted⟩

/-- Settles O59: the four values of the number. -/
theorem hostWriteOfModeIsChecked : Obligations.HostWriteOfModeIsChecked := by
  unfold Obligations.HostWriteOfModeIsChecked
  intro s rest v hsched
  rw [step_hostWrite hsched]
  refine ⟨fun hv => ?_, ?_, ?_, ?_⟩
  · obtain ⟨w, rfl⟩ := Nat.exists_eq_add_of_le' hv
    rfl
  all_goals
    rintro rfl
    rfl

/-- Settles O60. -/
theorem hostWriteMasksToWidth : Obligations.HostWriteMasksToWidth := by
  unfold Obligations.HostWriteMasksToWidth
  intro s rest field v hsched hmode
  have hkeeps := hostWrite_keeps field v { s with schedule := rest, report := none }
  have hown := hostWrite_own field v { s with schedule := rest, report := none }
  obtain ⟨hdev, hmem, hacc, hei⟩ := hkeeps
  obtain ⟨hanswers, hports, hdraws, hrest⟩ := hown
  exact ⟨_, step_hostWrite hsched, fieldValue_hostWrite_self hmode _,
    fun g hg => (fieldValue_hostWrite_ne hg v _).trans (by cases g <;> rfl),
    hei, hdev, hmem, hanswers, hports, hdraws, hacc, hostWrite_report hmode _, hrest⟩

end Sys2Proof.Proofs
end

section
/-! Decimal adjustment of decimal operands, and the accumulator and carry instructions (40_alu8.md R161 to R165). -/

namespace Sys2Proof.Machine

open Claims

theorem toNat_bcd {n : Nat} (h : n < 100) : (bcd n).toNat = 16 * (n / 10) + n % 10 := by
  rw [bcd, byte, BitVec.toNat_ofNat]
  omega

theorem toNat_add8 (a b : Byte) (f : Flags) : (add8 a b false f).1.toNat = (a.toNat + b.toNat) % 256 := BitVec.toNat_ofNat _ _

theorem toNat_sub8 (a b : Byte) (f : Flags) : (sub8 a b false f).1.toNat = (256 - b.toNat + a.toNat) % 256 := by
  rw [sub8_fst]
  exact (congrArg BitVec.toNat (BitVec.sub_zero _)).trans (BitVec.toNat_sub a b)

/-- The correction is one of each digit's, and they do not meet. -/
theorem toNat_daaDiff (a : Byte) (f : Flags) :
    (byte (daaDiff a f)).toNat =
      (if f.H = true ∨ 9 < a.toNat % 16 then 0x06 else 0) + if f.C = true ∨ 0x99 < a.toNat then 0x60 else 0 := by
  obtain ⟨hlow, hhigh, h⟩ | ⟨hlow, hhigh, h⟩ | ⟨hlow, hhigh, h⟩ | ⟨hlow, hhigh, h⟩ := daaDiff_cases a f
  · rw [h, if_pos hlow, if_pos hhigh]
    rfl
  · rw [h, if_pos hlow, if_neg hhigh]
    rfl
  · rw [h, if_neg hlow, if_pos hhigh]
    rfl
  · rw [h, if_neg hlow, if_neg hhigh]
    rfl

/-- Two decimal digits added as a byte, `u` and `v` the sums of the high and the low ones, then corrected as R161 says: the
digits of the sum mod 100. -/
theorem corrected_digit_sums : ∀ u < 19, ∀ v < 19,
    let sum := (16 * u + v) % 256
    (sum + ((if 15 < v ∨ 9 < sum % 16 then 0x06 else 0) + if 255 < 16 * u + v ∨ 0x99 < sum then 0x60 else 0)) % 256 =
        16 * ((10 * u + v) % 100 / 10) + (10 * u + v) % 100 % 10 ∧
      (255 < 16 * u + v ∨ 0x99 < sum ↔ 100 ≤ 10 * u + v) := by
  decide

/-- The same of a difference, `u` and `v` its high and low digits, each from -9 on. -/
theorem corrected_digit_differences : ∀ u < 19, ∀ v < 19,
    let diff := (103 + (16 * u + v)) % 256
    (2 ^ 8 - ((if v < 9 ∨ 9 < diff % 16 then 0x06 else 0) + if 16 * u + v < 153 ∨ 0x99 < diff then 0x60 else 0) + diff) %
        2 ^ 8 = 16 * ((1 + (10 * u + v)) % 100 / 10) + (1 + (10 * u + v)) % 100 % 10 ∧
      (16 * u + v < 153 ∨ 0x99 < diff ↔ 10 * u + v < 99) := by
  decide

section

variable {x y : Nat} (hx : x < 100) (hy : y < 100) (f : Flags)
include hx hy

/-- DAA after a sum of decimal digits: each digit's carry asks for the digit's correction. -/
theorem daa8_add8_bcd :
    let r := add8 (bcd x) (bcd y) false f
    (daa8 r.1 r.2).1 = bcd ((x + y) % 100) ∧ ((daa8 r.1 r.2).2.C = true ↔ 100 ≤ x + y) := by
  intro r
  have hsum : (bcd x).toNat + (bcd y).toNat = 16 * (x / 10 + y / 10) + (x % 10 + y % 10) := by
    rw [toNat_bcd hx, toNat_bcd hy]
    omega
  have hlow : (bcd x).toNat % 16 + (bcd y).toNat % 16 = x % 10 + y % 10 := by
    rw [toNat_bcd hx, toNat_bcd hy]
    omega
  have hxy : x + y = 10 * (x / 10 + y / 10) + (x % 10 + y % 10) := by omega
  have hr : r.1.toNat = ((bcd x).toNat + (bcd y).toNat) % 256 := toNat_add8 (bcd x) (bcd y) f
  have hH : r.2.H = true ↔ 15 < (bcd x).toNat % 16 + (bcd y).toNat % 16 := add8_H_iff (bcd x) (bcd y) false f
  have hC : r.2.C = true ↔ 255 < (bcd x).toNat + (bcd y).toNat := add8_C_iff (bcd x) (bcd y) false f
  have hN : r.2.N = false := rfl
  obtain ⟨hdigits, hcarry⟩ := corrected_digit_sums (x / 10 + y / 10) (by omega) (x % 10 + y % 10) (by omega)
  rw [← hxy, ← hsum] at hdigits hcarry
  rw [← hlow] at hdigits
  rw [daa8_C_iff, daa8_fst, hN, if_neg Bool.false_ne_true, hC, hr]
  refine ⟨BitVec.eq_of_toNat_eq ?_, hcarry⟩
  rw [toNat_bcd (Nat.mod_lt _ (by decide)), BitVec.toNat_add, toNat_daaDiff]
  simp only [hH, hC, hr]
  exact hdigits

/-- DAA after a difference of decimal digits: each digit's borrow asks for the digit's correction. -/
theorem daa8_sub8_bcd :
    let r := sub8 (bcd x) (bcd y) false f
    (daa8 r.1 r.2).1 = bcd ((x + 100 - y) % 100) ∧ ((daa8 r.1 r.2).2.C = true ↔ x < y) := by
  intro r
  obtain ⟨u, hu⟩ : ∃ u, u = x / 10 + 9 - y / 10 := ⟨_, rfl⟩
  obtain ⟨v, hv⟩ : ∃ v, v = x % 10 + 9 - y % 10 := ⟨_, rfl⟩
  have hr : r.1.toNat = (256 - (bcd y).toNat + (bcd x).toNat) % 256 := toNat_sub8 (bcd x) (bcd y) f
  have hH : r.2.H = true ↔ (bcd x).toNat % 16 < (bcd y).toNat % 16 := sub8_H_iff (bcd x) (bcd y) false f
  have hC : r.2.C = true ↔ (bcd x).toNat < (bcd y).toNat := sub8_C_iff (bcd x) (bcd y) false f
  have hN : r.2.N = true := rfl
  have hlow : (bcd x).toNat % 16 < (bcd y).toNat % 16 ↔ v < 9 := by
    rw [toNat_bcd hx, toNat_bcd hy]
    omega
  have hless : (bcd x).toNat < (bcd y).toNat ↔ 16 * u + v < 153 := by
    rw [toNat_bcd hx, toNat_bcd hy]
    omega
  have hdiff : 256 - (bcd y).toNat + (bcd x).toNat = 103 + (16 * u + v) := by
    rw [toNat_bcd hx, toNat_bcd hy]
    omega
  have hxy : x + 100 - y = 1 + (10 * u + v) := by omega
  have hborrow : x < y ↔ 10 * u + v < 99 := by omega
  rw [hlow] at hH
  rw [hless] at hC
  rw [hdiff] at hr
  obtain ⟨hdigits, hcarry⟩ := corrected_digit_differences u (by omega) v (by omega)
  rw [daa8_C_iff, daa8_fst, hN, if_pos rfl, hC, hr, hxy, hborrow]
  refine ⟨BitVec.eq_of_toNat_eq ?_, hcarry⟩
  rw [toNat_bcd (Nat.mod_lt _ (by decide)), BitVec.toNat_sub, toNat_daaDiff]
  simp only [hH, hC, hr]
  exact hdigits

end

theorem neg8_fst (a : Byte) (f : Flags) : (neg8 a f).1 = -a := by
  rw [neg8, sub8_fst]
  exact (BitVec.sub_zero _).trans (BitVec.zero_sub a)

theorem neg8_PV_iff (a : Byte) (f : Flags) : (neg8 a f).2.PV = true ↔ a = 0x80 := by
  have hnum : (0 : Byte).toInt - a.toInt - bitNat false = -a.toInt := by simp [bitNat]
  rw [neg8, sub8_PV_iff, hnum, Overflows8, ← BitVec.toInt_inj]
  have hlo := a.le_toInt
  have hhi := a.toInt_lt
  simp only [show (0x80 : Byte).toInt = -128 from rfl]
  omega

end Sys2Proof.Machine

namespace Sys2Proof.Proofs

open Machine Claims Safety

/-- Settles O29: the digits' carries and borrows in H and C are those of the corrections. -/
theorem decimalAdjustGivesDecimalDigits : Obligations.DecimalAdjustGivesDecimalDigits := by
  unfold Obligations.DecimalAdjustGivesDecimalDigits
  intro x y s hx hy hA
  obtain ⟨hsum, hcarry⟩ := daa8_add8_bcd hx hy s.F
  obtain ⟨hdiff, hborrow⟩ := daa8_sub8_bcd hx hy s.F
  rw [← hA] at hsum hcarry hdiff hborrow
  exact ⟨⟨_, _, exec_alu .ADD (.imm (bcd y)) s, exec_daa_eq _, hsum, hcarry, rfl⟩,
    ⟨_, _, exec_alu .SUB (.imm (bcd y)) s, exec_daa_eq _, hdiff, hborrow, rfl⟩⟩

/-- Settles O30: NEG is the difference of 0 and A. -/
theorem accumulatorAndCarryResult : Obligations.AccumulatorAndCarryResult := by
  unfold Obligations.AccumulatorAndCarryResult
  intro s
  have hneg : exec .neg s = .next { s with A := -s.A, F := (neg8 s.A s.F).2 } := by
    rw [← neg8_fst s.A s.F]
    exact exec_form .neg s
  refine ⟨rfl, rfl, rfl, rfl, exec_form .cpl s, ⟨_, hneg, ?_, ?_, neg8_PV_iff s.A s.F, rfl, ?_⟩, ⟨_, _, exec_form .scf s⟩,
    ⟨_, _, exec_form .ccf s⟩⟩
  · rw [← neg8_fst s.A s.F]
    exact szxy_mirrors _ s.F
  · rw [neg8, sub8_H_iff]
    exact Nat.pos_iff_ne_zero
  · rw [neg8, sub8_C_iff]
    exact Nat.pos_iff_ne_zero.trans (not_congr (BitVec.toNat_inj (y := 0)))

end Sys2Proof.Proofs
end

section
/-! Rotates, shifts and bits, then ports and CPU control (42_rotate_shift.md R205 to R213; 43_bit.md R231 to R233; 47_io.md R370 to
R374; 48_cpu_control.md R390 to R396). -/

namespace Sys2Proof.Machine

open Claims

/-! ### The rotates and shifts, by the bit that comes in -/

/-- The bit that comes in where the others moved away from (42_rotate_shift.md R206 to R213). -/
def shiftedIn (op : RotOp) (v : Byte) (c : Bool) : Bool :=
  match op with
  | .RLC => v.getLsbD 7
  | .RRC => v.getLsbD 0
  | .RL => c
  | .RR => c
  | .SLA => false
  | .SRA => v.getLsbD 7
  | .SLL => true
  | .SRL => false

/-- The four that move bits up. -/
def leftward (op : RotOp) : Bool :=
  match op with
  | .RLC | .RL | .SLA | .SLL => true
  | .RRC | .RR | .SRA | .SRL => false

theorem leftward_iff (op : RotOp) : op = .RLC ∨ op = .RL ∨ op = .SLA ∨ op = .SLL ↔ leftward op = true := by
  cases op <;> decide

theorem rotByte_leftward {op : RotOp} (h : leftward op = true) (v : Byte) (c : Bool) :
    rotByte op v c = (v <<< 1 ||| byte (bitNat (shiftedIn op v c)), v.getLsbD 7) := by
  cases op with
  | RLC => rfl
  | RL => rfl
  | SLA => exact congrArg (·, v.getLsbD 7) BitVec.or_zero.symm
  | SLL => rfl
  | RRC | RR | SRA | SRL => cases h

theorem and_signMask_eq_shiftLeft (v : Byte) : v &&& 0x80 = byte (bitNat (v.getLsbD 7)) <<< 7 := by
  have hmask : v &&& 0x80 = (v >>> 7) <<< 7 := (BitVec.shiftLeft_ushiftRight (n := 7)).symm
  rw [hmask, ushiftRight_last, BitVec.msb_eq_getLsbD_last]
  rfl

theorem rotByte_rightward {op : RotOp} (h : leftward op = false) (v : Byte) (c : Bool) :
    rotByte op v c = (v >>> 1 ||| byte (bitNat (shiftedIn op v c)) <<< 7, v.getLsbD 0) := by
  cases op with
  | RRC => rfl
  | RR => rfl
  | SRA => exact congrArg (fun m => (v >>> 1 ||| m, v.getLsbD 0)) (and_signMask_eq_shiftLeft v)
  | SRL => exact congrArg (·, v.getLsbD 0) BitVec.or_zero.symm
  | RLC | RL | SLA | SLL => cases h

theorem getLsbD_bitNat (c : Bool) (j : Nat) : (byte (bitNat c)).getLsbD j = (decide (j = 0) && c) := by
  cases c <;> cases j <;> simp [byte, bitNat]

/-- Up by one: the bit that comes in is bit 0. -/
theorem getLsbD_shiftLeft_or (v : Byte) (c : Bool) :
    (∀ j, j < 7 → (v <<< 1 ||| byte (bitNat c)).getLsbD (j + 1) = v.getLsbD j) ∧
      (v <<< 1 ||| byte (bitNat c)).getLsbD 0 = c := by
  refine ⟨fun j hj => ?_, ?_⟩
  · have hlt : j + 1 < 8 := by omega
    rw [BitVec.getLsbD_or, BitVec.getLsbD_shiftLeft, getLsbD_bitNat]
    simp [hlt]
  · rw [BitVec.getLsbD_or, getLsbD_bitNat]
    simp

/-- Down by one: the bit that comes in is bit 7. -/
theorem getLsbD_ushiftRight_or (v : Byte) (c : Bool) :
    (∀ j, j < 7 → (v >>> 1 ||| byte (bitNat c) <<< 7).getLsbD j = v.getLsbD (j + 1)) ∧
      (v >>> 1 ||| byte (bitNat c) <<< 7).getLsbD 7 = c := by
  refine ⟨fun j hj => ?_, ?_⟩
  · simp [hj, Nat.add_comm]
  · rw [BitVec.getLsbD_or, BitVec.getLsbD_shiftLeft, getLsbD_bitNat]
    simp

theorem exec_rot (op : RotOp) (m : CbPlace) (s : State) :
    let r := rotByte op (s.readPlace m.place).1 s.F.C
    exec (Form.rot op m).instr s = .next ((withFlags (s.readPlace m.place).2 (rotFlags r.1 r.2 s.F)).writePlace m.place r.1) :=
  exec_form (.rot op m) s

/-! ### Bit tests, set and reset -/

theorem withFlags_readPlace (p : Place8) (s : State) : withFlags (s.readPlace p).2 s.F = (s.readPlace p).2 := by
  cases p <;> rfl

theorem exec_set (b : Fin 8) (m : CbPlace) (s : State) :
    exec (Form.set b m).instr s = .next ((s.readPlace m.place).2.writePlace m.place (setBit8 b (s.readPlace m.place).1)) := by
  rw [← withFlags_readPlace]
  exact exec_form (.set b m) s

theorem exec_res (b : Fin 8) (m : CbPlace) (s : State) :
    exec (Form.res b m).instr s = .next ((s.readPlace m.place).2.writePlace m.place (resetBit8 b (s.readPlace m.place).1)) := by
  rw [← withFlags_readPlace]
  exact exec_form (.res b m) s

theorem getLsbD_setBit8 (b : Fin 8) (v : Byte) (j : Nat) :
    (setBit8 b v).getLsbD j = if j = b.val then true else v.getLsbD j := by
  show (v ||| BitVec.twoPow 8 b.val).getLsbD j = _
  rw [BitVec.getLsbD_or, BitVec.getLsbD_twoPow]
  split_ifs with h
  · simp [h]
  · simp [Ne.symm h]

theorem getLsbD_resetBit8 (b : Fin 8) (v : Byte) {j : Nat} (hj : j < 8) :
    (resetBit8 b v).getLsbD j = if j = b.val then false else v.getLsbD j := by
  show (v &&& ~~~BitVec.twoPow 8 b.val).getLsbD j = _
  rw [BitVec.getLsbD_and, BitVec.getLsbD_not, BitVec.getLsbD_twoPow]
  split_ifs with h
  · simp [h]
  · simp [Ne.symm h, hj]

/-- The flags of BIT b,m but for F5 and F3 (43_bit.md R231). -/
theorem bitFlags_spec (b : Fin 8) (v : Byte) (f5 f3 : Bool) (f : Flags) :
    let g := bitFlags b v f5 f3 f
    g.Z = !v.getLsbD b ∧ g.PV = !v.getLsbD b ∧ (g.S = true ↔ b = 7 ∧ v.getLsbD 7 = true) ∧ g.H = true ∧ g.N = false ∧
      g.C = f.C := by
  refine ⟨rfl, rfl, ?_, rfl, rfl, rfl⟩
  show (decide (b = 7) && v.getLsbD b) = true ↔ _
  rw [Bool.and_eq_true, decide_eq_true_iff]
  exact and_congr_right fun h => by rw [h]; rfl

theorem getLsbD_hiByte (w : Word) {j : Nat} (hj : j < 8) : (hiByte w).getLsbD j = w.getLsbD (8 + j) := by
  rw [← extractLsb'_eq_hiByte, BitVec.getLsbD_extractLsb', decide_eq_true hj, Bool.true_and]

end Sys2Proof.Machine

namespace Sys2Proof.Proofs

open Machine Claims Safety

/-- Settles O35: `rotByte` moves the byte by one, and `shiftedIn` is the bit that comes in. -/
theorem rotateAndShiftResult : Obligations.RotateAndShiftResult := by
  unfold Obligations.RotateAndShiftResult
  intro op m s v left
  refine ⟨_, _, exec_rot op m s, ?_⟩
  have hleft : left ↔ leftward op = true := leftward_iff op
  cases hop : leftward op with
  | true =>
    obtain ⟨hmoved, hin⟩ := getLsbD_shiftLeft_or v (shiftedIn op v s.F.C)
    have hnot {o : RotOp} (ho : leftward o = false) {P : Prop} (h : op = o) : P := by
      rw [h, ho] at hop
      cases hop
    rw [rotByte_leftward hop]
    exact ⟨fun _ => ⟨hmoved, rfl⟩, fun h => (h (hleft.mpr hop)).elim, by rintro rfl; exact hin, by rintro rfl; exact hin,
      by rintro rfl; exact hin, by rintro rfl; exact hin, hnot rfl, hnot rfl, hnot rfl, hnot rfl, szxy_mirrors _ s.F, rfl,
      parity_iff _, rfl⟩
  | false =>
    obtain ⟨hmoved, hin⟩ := getLsbD_ushiftRight_or v (shiftedIn op v s.F.C)
    have hnot {o : RotOp} (ho : leftward o = true) {P : Prop} (h : op = o) : P := by
      rw [h, ho] at hop
      cases hop
    have hright : ¬ left := fun h => Bool.false_ne_true (hop.symm.trans (hleft.mp h))
    rw [rotByte_rightward hop]
    exact ⟨fun h => (hright h).elim, fun _ => ⟨hmoved, rfl⟩, hnot rfl, hnot rfl, hnot rfl, hnot rfl, by rintro rfl; exact hin,
      by rintro rfl; exact hin, by rintro rfl; exact hin, by rintro rfl; exact hin, szxy_mirrors _ s.F, rfl, parity_iff _, rfl⟩

/-- Settles O38: the places differ only in F5 and F3, and in the draws these take. -/
theorem bitTestResult : Obligations.BitTestResult := by
  unfold Obligations.BitTestResult
  intro b m s v
  cases m with
  | reg r =>
    obtain ⟨hZ, hPV, hS, hH, hN, hC⟩ := bitFlags_spec b v (v.getLsbD 5) (v.getLsbD 3) s.F
    exact ⟨_, _, exec_form (.bit b (.reg r)) s, rfl, hZ, hPV, hS, hH, hN, hC,
      fun _ _ => ⟨rfl, rfl⟩, fun _ _ h => by cases h⟩
  | memHL =>
    obtain ⟨hZ, hPV, hS, hH, hN, hC⟩ := bitFlags_spec b v (Config.freeF5 (s.readPlace (.mem .HL)).2.draws)
      (Config.freeF3 (s.readPlace (.mem .HL)).2.draws) s.F
    exact ⟨_, _, exec_form (.bit b .memHL) s, rfl, hZ, hPV, hS, hH, hN, hC, fun _ h => (by cases h), fun _ _ h => by cases h⟩
  | memIdx x d =>
    obtain ⟨hZ, hPV, hS, hH, hN, hC⟩ := bitFlags_spec b v ((s.addr (.idx x d)).getLsbD 13) ((s.addr (.idx x d)).getLsbD 11) s.F
    refine ⟨_, _, exec_form (.bit b (.memIdx x d)) s, rfl, hZ, hPV, hS, hH, hN, hC, fun _ h => (by cases h), ?_⟩
    rintro _ _ ⟨⟩
    exact ⟨(getLsbD_hiByte _ (j := 5) (by decide)).symm, (getLsbD_hiByte _ (j := 3) (by decide)).symm⟩

/-- Settles O39. -/
theorem setAndResetBitResult : Obligations.SetAndResetBitResult := by
  unfold Obligations.SetAndResetBitResult
  exact fun b m s => ⟨_, _, exec_set b m s, exec_res b m s,
    fun j _ => getLsbD_setBit8 b _ j, fun _ hj => getLsbD_resetBit8 b _ hj⟩

/-- Settles O54: each is one port request and what it does with the answer. -/
theorem portInstructionResult : Obligations.PortInstructionResult := by
  unfold Obligations.PortInstructionResult
  intro r n port s
  refine ⟨encode_inReg r, rfl, encode_outReg r, rfl, undefined_ED rfl, undefined_ED rfl, rfl, fun v rest h => ?_,
    ⟨_, exec_form (.inReg r) s, byteFlags_mirrors _ _ s.F, rfl, parity_iff _, rfl, rfl⟩, exec_form (.inA n) s,
    exec_form (.outReg r) s, exec_form (.outA n) s⟩
  show s.portAnswer port = v
  rw [State.portAnswer, h]

/-- Settles O55. -/
theorem cpuControlResult : Obligations.CpuControlResult := by
  unfold Obligations.CpuControlResult
  exact fun s => ⟨rfl, rfl, rfl, rfl, rfl, rfl, rfl, exec_form .nop s, exec_form .halt s, exec_form .di s, exec_form .ei s,
    exec_form (.im .im0) s, exec_form (.im .im1) s, exec_form (.im .im2) s⟩

end Sys2Proof.Proofs
end

section
/-! LDIR run to completion on `PLAIN_RAM` (44_block.md R250, R253). -/

namespace Sys2Proof.Machine

open Claims Safety

/-! ### Runs of addresses -/

theorem add_ofNat_succ (a : Word) (k : Nat) : a + BitVec.ofNat 16 (k + 1) = a + 1 + BitVec.ofNat 16 k := by
  rw [BitVec.add_assoc, Nat.add_comm, BitVec.ofNat_add]
  rfl

theorem mem_addrsFrom_succ {a b : Word} {n : Nat} : a ∈ addrsFrom b (n + 1) ↔ a = b ∨ a ∈ addrsFrom (b + 1) n := by
  have hzero : b + BitVec.ofNat 16 0 = b := BitVec.add_zero b
  simp only [addrsFrom, List.range_succ_eq_map, List.map_cons, List.map_map, Function.comp_def, Nat.succ_eq_add_one, add_ofNat_succ,
    hzero, List.mem_cons]

theorem mem_addrsFrom {a b : Word} {n : Nat} : a ∈ addrsFrom b n ↔ ∃ k < n, b + BitVec.ofNat 16 k = a := by
  simp only [addrsFrom, List.mem_map, List.mem_range]

/-- A run shorter than the address space does not come back to the address before it. -/
theorem not_mem_addrsFrom_add_one {b : Word} {n : Nat} (h : n + 1 < 65536) : b ∉ addrsFrom (b + 1) n := by
  rw [mem_addrsFrom]
  rintro ⟨k, hk, heq⟩
  rw [← add_ofNat_succ, add_eq_left] at heq
  have hnat := congrArg BitVec.toNat heq
  rw [BitVec.toNat_ofNat, Nat.mod_eq_of_lt (by omega)] at hnat
  exact Nat.succ_ne_zero k hnat

/-! ### One element -/

/-- What one element of LDIR at `s.PC` leaves: the byte moved, the pointers and the counter stepped, PC at the instruction while BC
is not 0. -/
structure ElementMoved (s t : State) : Prop where
  schedule : t.schedule = s.schedule
  Halted : t.Halted = s.Halted
  device : t.memDevice = s.memDevice
  stored : ∀ a, t.stored a = if a = s.get16 .DE then s.stored (s.get16 .HL) else s.stored a
  HL : t.get16 .HL = s.get16 .HL + 1
  DE : t.get16 .DE = s.get16 .DE + 1
  BC : t.get16 .BC = s.get16 .BC - 1
  PV : t.F.PV = decide (s.get16 .BC - 1 ≠ 0)
  PC : t.PC = if s.get16 .BC - 1 ≠ 0 then s.PC else s.PC + 2

/-- `ED B0` stands at PC of a core that runs on `PLAIN_RAM`. -/
structure AtLdir (s : State) : Prop where
  running : Running s
  device : s.memDevice = .plainRam
  lead : s.stored s.PC = 0xED
  op : s.stored (s.PC + 1) = 0xB0

theorem elementMoved_opBlockLdRepeat {s : State} (hram : s.memDevice = .plainRam) :
    ElementMoved s (opBlockLdRepeat .up (AfterFetch s 2)) := by
  have hPC : (AfterFetch s 2).PC - 2 = s.PC := BitVec.add_sub_cancel s.PC 2
  have hram' : (AfterFetch s 2).memDevice = .plainRam := hram
  rw [opBlockLdRepeat_eq, opBlockLd_eq, hPC, State.peek_plainRam hram']
  refine ⟨rfl, rfl, rfl, fun a => ?_, joinBytes_hi_lo _, joinBytes_hi_lo _, joinBytes_hi_lo _, rfl, ?_⟩
  · show ((AfterFetch s 2).memDevice.write s.mem (s.get16 .DE) (s.stored (s.get16 .HL))).read a.toNat = _
    rw [hram', MemDevice.read_write]
    simp only [MemDevice.keeps_plainRam, and_true]
    rfl
  · simp only [decide_eq_true_iff]
    rfl

theorem step_ldir {s : State} (h : AtLdir s) : ∃ t, step s = .next t ∧ ElementMoved s t := by
  obtain ⟨⟨hsched, hrun⟩, hram, hlead, hop⟩ := h
  have hd : decode (fetchWindow s) = .ok (.ldir, [s.stored (s.PC + 2), s.stored (s.PC + 3)]) := by
    simp only [fetchWindow, State.memAnswer_plainRam hram, hlead, hop]
    rfl
  exact ⟨_, (step_unscheduled hsched).trans (stepEvent_of_decode hrun hd), elementMoved_opBlockLdRepeat hram⟩

/-! ### The block -/

/-- The `n` destination bytes avoid the source bytes and the instruction. -/
def DestinationApart (s : State) (n : Nat) : Prop :=
  ∀ a ∈ addrsFrom (s.get16 .DE) n, a ∉ addrsFrom (s.get16 .HL) n ∧ a ≠ s.PC ∧ a ≠ s.PC + 1

/-- The block of `n` bytes moved and nothing else. -/
structure BlockMoved (s : State) (n : Nat) (t : State) : Prop where
  moved : ∀ k, k < n → t.stored (s.get16 .DE + BitVec.ofNat 16 k) = s.stored (s.get16 .HL + BitVec.ofNat 16 k)
  kept : ∀ a, a ∉ addrsFrom (s.get16 .DE) n → t.stored a = s.stored a
  HL : t.get16 .HL = s.get16 .HL + BitVec.ofNat 16 n
  DE : t.get16 .DE = s.get16 .DE + BitVec.ofNat 16 n
  BC : t.get16 .BC = 0
  PV : t.F.PV = false
  PC : t.PC = s.PC + 2

section

variable {s t u : State} {n : Nat}

/-- The last element is the whole of a block of one byte. -/
theorem ElementMoved.last (h : ElementMoved s t) (hcount : s.get16 .BC = 1) : BlockMoved s 1 t := by
  have hBC : s.get16 .BC - 1 = 0 := by rw [hcount]; rfl
  refine ⟨fun k hk => ?_, fun a ha => ?_, h.HL, h.DE, h.BC.trans hBC, ?_, ?_⟩
  · obtain rfl : k = 0 := Nat.lt_one_iff.mp hk
    rw [h.stored, if_pos (BitVec.add_zero _)]
    exact congrArg s.stored (BitVec.add_zero _).symm
  · rw [h.stored, if_neg fun hDE => ha (mem_addrsFrom_succ.mpr (.inl hDE))]
  · rw [h.PV, hBC]
    rfl
  · rw [h.PC, hBC, if_neg (not_not.mpr rfl)]

/-- Before the last element the instruction is still there, and the rest of the block is as before. -/
theorem ElementMoved.again (h : ElementMoved s t) (hat : AtLdir s) (hmore : s.get16 .BC - 1 ≠ 0)
    (hapart : DestinationApart s (n + 1)) : AtLdir t ∧ t.PC = s.PC ∧ DestinationApart t n := by
  obtain ⟨⟨hsched, hrun⟩, hram, hlead, hop⟩ := hat
  have hPC : t.PC = s.PC := h.PC.trans (if_pos hmore)
  obtain ⟨-, hne, hne'⟩ := hapart (s.get16 .DE) (mem_addrsFrom_succ.mpr (.inl rfl))
  refine ⟨⟨⟨h.schedule.trans hsched, h.Halted.trans hrun⟩, h.device.trans hram, ?_, ?_⟩, hPC, fun a ha => ?_⟩
  · rw [hPC, h.stored, if_neg (Ne.symm hne), hlead]
  · rw [hPC, h.stored, if_neg (Ne.symm hne'), hop]
  · rw [h.DE] at ha
    obtain ⟨hsource, hlead', hop'⟩ := hapart a (mem_addrsFrom_succ.mpr (.inr ha))
    rw [h.HL, hPC]
    exact ⟨fun hmem => hsource (mem_addrsFrom_succ.mpr (.inr hmem)), hlead', hop'⟩

/-- An element, then the rest of the block. -/
theorem ElementMoved.then (h : ElementMoved s t) (hPC : t.PC = s.PC) (hn : n + 1 < 65536) (hapart : DestinationApart s (n + 1))
    (hrest : BlockMoved t n u) : BlockMoved s (n + 1) u := by
  obtain ⟨hmoved, hkept, hHL, hDE, hBC, hPV, hPC'⟩ := hrest
  rw [h.HL, ← add_ofNat_succ] at hHL
  rw [h.DE, ← add_ofNat_succ] at hDE
  rw [h.DE] at hkept
  refine ⟨fun k hk => ?_, fun a ha => ?_, hHL, hDE, hBC, hPV, hPC'.trans (by rw [hPC])⟩
  · cases k with
    | zero =>
      have hzero (a : Word) : a + BitVec.ofNat 16 0 = a := BitVec.add_zero a
      rw [hzero, hzero, hkept _ (not_mem_addrsFrom_add_one hn), h.stored, if_pos rfl]
    | succ k =>
      obtain ⟨hsource, -, -⟩ := hapart (s.get16 .DE) (mem_addrsFrom_succ.mpr (.inl rfl))
      have hne : s.get16 .HL + 1 + BitVec.ofNat 16 k ≠ s.get16 .DE := fun heq =>
        hsource (mem_addrsFrom.mpr ⟨k + 1, hk, (add_ofNat_succ _ _).trans heq⟩)
      have hbyte := hmoved k (Nat.lt_of_succ_lt_succ hk)
      rwa [h.DE, h.HL, h.stored, if_neg hne, ← add_ofNat_succ, ← add_ofNat_succ] at hbyte
  · obtain ⟨hDE', hrest'⟩ := not_or.mp (mem_addrsFrom_succ.not.mp ha)
    rw [hkept a hrest', h.stored, if_neg hDE']

end

theorem run_succ_of_step {s t : State} (h : step s = .next t) (n : Nat) :
    Host.Core.run core (n + 1) s = Host.Core.run core n t := by
  have hcore : core.step s = .next t := h
  simp only [Host.Core.run, hcore]

/-- LDIR with `n + 1` bytes to go, run that many steps. -/
theorem run_ldir (n : Nat) (hn : n + 1 < 65536) {s : State} (hat : AtLdir s) (hcount : s.get16 .BC = BitVec.ofNat 16 (n + 1))
    (hapart : DestinationApart s (n + 1)) : ∃ t, Host.Core.run core (n + 1) s = .next t ∧ BlockMoved s (n + 1) t := by
  induction n generalizing s with
  | zero =>
    obtain ⟨t, hstep, hmoved⟩ := step_ldir hat
    exact ⟨t, run_succ_of_step hstep 0, hmoved.last hcount⟩
  | succ n ih =>
    obtain ⟨t, hstep, hmoved⟩ := step_ldir hat
    have hBC : s.get16 .BC - 1 = BitVec.ofNat 16 (n + 1) := by
      rw [hcount, BitVec.ofNat_add _ 1]
      exact BitVec.add_sub_cancel _ _
    have hmore : s.get16 .BC - 1 ≠ 0 := by
      rw [hBC]
      intro hzero
      have hnat := congrArg BitVec.toNat hzero
      rw [BitVec.toNat_ofNat, Nat.mod_eq_of_lt (by omega)] at hnat
      exact Nat.succ_ne_zero n hnat
    obtain ⟨hat', hPC, hapart'⟩ := hmoved.again hat hmore hapart
    obtain ⟨u, hrun, hrest⟩ := ih (by omega) hat' (hmoved.BC.trans hBC) hapart'
    exact ⟨u, (run_succ_of_step hstep (n + 1)).trans hrun, hmoved.then hPC hn hapart hrest⟩

end Sys2Proof.Machine

namespace Sys2Proof.Proofs

open Machine Claims Safety

/-- Settles O44: by induction on the bytes to go; each step moves one and leaves the instruction and the rest of the block. -/
theorem ldirMovesTheBlock : Obligations.LdirMovesTheBlock := by
  unfold Obligations.LdirMovesTheBlock
  intro s n hs hram hlead hop hpos hn hcount hapart
  obtain ⟨m, rfl⟩ := Nat.exists_eq_add_one_of_ne_zero hpos.ne'
  obtain ⟨t, hrun, hmoved, hkept, hHL, hDE, hBC, hPV, hPC⟩ := run_ldir m hn ⟨hs, hram, hlead, hop⟩ hcount hapart
  exact ⟨t, hrun, hmoved, hkept, hHL, hDE, hBC, hPV, hPC⟩

end Sys2Proof.Proofs
end
